-- ==== Sys2Proof/Config.lean ====
section
/-! DEFINITION. What a build fixes at construction (spec/00_scope.md R6-R9, spec/41_refresh_timer.md R90) and the free
values of the model. -/

namespace Sys2Proof

/-- The construction parameter `clock_period_ns`, "float/rational" (R6): a rational number of nanoseconds, or one of
the values of a float that is no number (R161). -/
inductive ClockPeriod where
  | finite (ns : Rat)
  | nan
  | posInf
  | negInf
  deriving DecidableEq, Repr

namespace Config

/-- The target refresh interval, 2 milliseconds in nanoseconds (R7). -/
def refreshNs : Rat := 2000000

/-- The refresh threshold `R := floor(2_000_000 / p)`, an exact rational division (R90, decision D2; log 2). -/
def refreshCountOf (p : Rat) : Nat := (refreshNs / p).floor.toNat

/-- The RefreshCounter's width `CNT_W = max(1, bitlength(R))`; `Nat.size R` is the least `b` with `R < 2^b` (R9). -/
def counterWidth (R : Nat) : Nat := max 1 (Nat.size R)

/-- FREE VALUE (log 1). The threshold R of the block that `State.reset` is the reset state of: the spec leaves R to the
construction, any natural number (R8). -/
opaque refreshCount : Nat

/-- FREE VALUE (log 7). The nibble the selector yields in a given cycle for a digit that is not one-hot: UNSPECIFIED, a
free draw per cycle (R131). -/
opaque freeNibble : Nat → BitVec 4

/-- FREE VALUE (log 8). The input word the environment drives at the edge that ends a given cycle, where the state
lists no stimulus for it: every input sequence is possible (R62, decision D20). -/
opaque freeInput : Nat → BitVec 14

end Config

end Sys2Proof
end

