-- ==== Sys2Proof/Word.lean ====
section
/-! DEFINITION. The block's bit vectors (spec/00_scope.md R11-R13: bit 0 is the least significant) and the words of
the three encoding formats of spec/opcode_table.json. -/

namespace Sys2Proof

/-- The 14-bit input word `IN[13:0] = {rst, wr_en, wr_data[11:0]}` sampled at a clock edge (R61). -/
abbrev InputWord := BitVec 14

/-- The 12-bit ValueRegister word (R23, R66). -/
abbrev Value := BitVec 12

/-- The 3-bit digit-select vector (R22, R64). -/
abbrev Digit := BitVec 3

/-- One 4-bit field of the value (R63, R130). -/
abbrev Nibble := BitVec 4

/-- The 7-bit segment pattern `segments[6:0]`, active-low (R65, R81). -/
abbrev Segments := BitVec 7

/-- The three formats of spec/opcode_table.json: each is the word standing at ONE input of the block or of one of its
combinational parts (R61, R70). -/
inductive Format where
  /-- the 14-bit input word of a clock edge -/
  | in14
  /-- the 4-bit nibble at the SegmentDecoder's input -/
  | segdec4
  /-- the 3-bit digit at the NibbleSelector's input -/
  | nibsel3
  deriving DecidableEq, Repr

/-- A word of one of the three formats, at its own width. The block has no bytes and no byte order (R45), so a word is
never laid out in bytes. -/
inductive Code where
  | in14 (w : InputWord)
  | segdec4 (n : Nibble)
  | nibsel3 (d : Digit)
  deriving DecidableEq, Repr

/-- The format a word belongs to. -/
def Code.format : Code → Format
  | .in14 _ => .in14
  | .segdec4 _ => .segdec4
  | .nibsel3 _ => .nibsel3

/-- A word's bits as a number, bit 0 the least significant. -/
def Code.bits : Code → Nat
  | .in14 w => w.toNat
  | .segdec4 n => n.toNat
  | .nibsel3 d => d.toNat

end Sys2Proof
end

