-- ==== Sys2Proof/Syntax.lean ====
section
/-! DEFINITION. The operations of spec/opcode_table.json: one constructor per row. -/

namespace Sys2Proof

/-- One constructor per row of spec/opcode_table.json. The block is not a processor (R2): format IN14 gives the three
operations of a clock edge (R62), SEGDEC4 the sixteen entries of the SegmentDecoder (R80), NIBSEL3 the three of the
NibbleSelector (R130). -/
inductive Instr where
  /-- RESET: `rst = 1`; the other input bits are ignored (R143). -/
  | reset
  /-- TICK: `rst = 0`, `wr_en = 0`; `wr_data` is ignored (R144). -/
  | tick
  /-- TICK_WR: `rst = 0`, `wr_en = 1`; the operand is `wr_data`, taken whole (R63, R145). -/
  | tickWr (wrData : Value)
  /-- DECODE_0: the nibble 0x0 gives the pattern 1000000 (R80). -/
  | decode0
  /-- DECODE_1: the nibble 0x1 gives the pattern 1111001 (R80). -/
  | decode1
  /-- DECODE_2: the nibble 0x2 gives the pattern 0100100 (R80). -/
  | decode2
  /-- DECODE_3: the nibble 0x3 gives the pattern 0110000 (R80). -/
  | decode3
  /-- DECODE_4: the nibble 0x4 gives the pattern 0011001 (R80). -/
  | decode4
  /-- DECODE_5: the nibble 0x5 gives the pattern 0010010 (R80). -/
  | decode5
  /-- DECODE_6: the nibble 0x6 gives the pattern 0000010 (R80). -/
  | decode6
  /-- DECODE_7: the nibble 0x7 gives the pattern 1111000 (R80). -/
  | decode7
  /-- DECODE_8: the nibble 0x8 gives the pattern 0000000 (R80). -/
  | decode8
  /-- DECODE_9: the nibble 0x9 gives the pattern 0010000 (R80). -/
  | decode9
  /-- DECODE_A: the nibble 0xA gives the pattern 0001000 (R80). -/
  | decodeA
  /-- DECODE_B: the nibble 0xB gives the pattern 0000011 (R80). -/
  | decodeB
  /-- DECODE_C: the nibble 0xC gives the pattern 1000110 (R80). -/
  | decodeC
  /-- DECODE_D: the nibble 0xD gives the pattern 0100001 (R80). -/
  | decodeD
  /-- DECODE_E: the nibble 0xE gives the pattern 0000110 (R80). -/
  | decodeE
  /-- DECODE_F: the nibble 0xF gives the pattern 0001110 (R80). -/
  | decodeF
  /-- SELECT_001: the digit 0b001 selects `value[11:8]` (R130). -/
  | select001
  /-- SELECT_010: the digit 0b010 selects `value[7:4]` (R130). -/
  | select010
  /-- SELECT_100: the digit 0b100 selects `value[3:0]` (R130). -/
  | select100
  deriving DecidableEq, Repr

end Sys2Proof
end

