-- ==== Sys2Proof/WellFormed.lean ====
section
/-! DEFINITION. What is well-formed: an operation, a word at one of the block's inputs, a clock period. -/

namespace Sys2Proof

/-- The digit codes with exactly one bit set (R22, R64). -/
def Digit.oneHot (d : Digit) : Bool := d == 0b001#3 || d == 0b010#3 || d == 0b100#3

/-- A word is well-formed when the spec gives it a meaning: every input word (R62) and every nibble (R82) is legal; a
digit must be one-hot, the other five codes being reserved (R67). -/
def Code.wf : Code → Bool
  | .in14 _ => true
  | .segdec4 _ => true
  | .nibsel3 d => Digit.oneHot d

/-- Every operation is well-formed: TICK_WR is the only one with an operand, and each of the 4096 values of that
operand is legal (R23, R63); its type holds no other. -/
def Instr.wf : Instr → Bool := fun _ => true

/-- A clock period is accepted at construction when it is a finite number greater than 0 (R6, R161, decision D17). -/
def ClockPeriod.wf : ClockPeriod → Bool
  | .finite ns => decide (0 < ns)
  | .nan => false
  | .posInf => false
  | .negInf => false

end Sys2Proof
end

