-- ==== Sys2Proof/Decode.lean ====
section
/-! DEFINITION. The decoder and the encoder of the three formats, written from spec/30_encoding.md (R61, R62, R67, R70)
and the match and mask columns of spec/opcode_table.json. -/

namespace Sys2Proof

/-- Why a word is refused. -/
inductive DecodeError where
  /-- A NIBSEL3 word that is not one-hot: the table has no row for it, and the five such codes are reserved (R67).
  Raised by `decodeNibsel3`; safe: the machine goes on with a free nibble (R131). -/
  | reservedDigit (d : Digit)
  deriving DecidableEq, Repr

/-- `IN[13]`: the reset input (R61). -/
def InputWord.rst (w : InputWord) : Bool := w.getLsbD 13

/-- `IN[12]`: the write strobe (R61). -/
def InputWord.wrEn (w : InputWord) : Bool := w.getLsbD 12

/-- `IN[11:0]`: the write data (R61). -/
def InputWord.wrData (w : InputWord) : Value := w.extractLsb' 0 12

/-- The input word `{rst, wr_en, wr_data}` (R61). -/
def inputWord (rst wrEn : Bool) (wrData : Value) : InputWord :=
  (BitVec.ofBool rst ++ BitVec.ofBool wrEn ++ wrData).cast rfl

/-- The operation an input word selects (R62): every one of the 2^14 words selects exactly one. -/
def decodeIn14 (w : InputWord) : Instr :=
  if InputWord.rst w then .reset
  else if InputWord.wrEn w then .tickWr (InputWord.wrData w)
  else .tick

/-- The SegmentDecoder's row for a nibble (R80): no nibble is illegal (R67, R82). -/
def decodeSegdec4 (n : Nibble) : Instr :=
  match n.toNat with
  | 0 => .decode0
  | 1 => .decode1
  | 2 => .decode2
  | 3 => .decode3
  | 4 => .decode4
  | 5 => .decode5
  | 6 => .decode6
  | 7 => .decode7
  | 8 => .decode8
  | 9 => .decode9
  | 10 => .decodeA
  | 11 => .decodeB
  | 12 => .decodeC
  | 13 => .decodeD
  | 14 => .decodeE
  | _ => .decodeF  -- 0xF, the one nibble left

/-- The NibbleSelector's row for a digit (R130); the five codes that are not one-hot are reserved (R67). -/
def decodeNibsel3 (d : Digit) : Except DecodeError Instr :=
  if d = 0b001#3 then .ok .select001
  else if d = 0b010#3 then .ok .select010
  else if d = 0b100#3 then .ok .select100
  else .error (.reservedDigit d)

/-- The decoder: total on every word of every format, rejecting by name. -/
def decode : Code → Except DecodeError Instr
  | .in14 w => .ok (decodeIn14 w)
  | .segdec4 n => .ok (decodeSegdec4 n)
  | .nibsel3 d => decodeNibsel3 d

/-- The encoder: the word of each operation, with 0 in the bits its row ignores (R62, R80, R130). -/
def encode : Instr → Code
  | .reset => .in14 (inputWord true false 0)
  | .tick => .in14 (inputWord false false 0)
  | .tickWr v => .in14 (inputWord false true v)
  | .decode0 => .segdec4 0x0#4
  | .decode1 => .segdec4 0x1#4
  | .decode2 => .segdec4 0x2#4
  | .decode3 => .segdec4 0x3#4
  | .decode4 => .segdec4 0x4#4
  | .decode5 => .segdec4 0x5#4
  | .decode6 => .segdec4 0x6#4
  | .decode7 => .segdec4 0x7#4
  | .decode8 => .segdec4 0x8#4
  | .decode9 => .segdec4 0x9#4
  | .decodeA => .segdec4 0xA#4
  | .decodeB => .segdec4 0xB#4
  | .decodeC => .segdec4 0xC#4
  | .decodeD => .segdec4 0xD#4
  | .decodeE => .segdec4 0xE#4
  | .decodeF => .segdec4 0xF#4
  | .select001 => .nibsel3 0b001#3
  | .select010 => .nibsel3 0b010#3
  | .select100 => .nibsel3 0b100#3

/-- One row of spec/opcode_table.json: its format and its match and mask columns. -/
structure Row where
  format : Format
  pattern : Nat
  mask : Nat
  deriving DecidableEq, Repr

/-- A word matches a row: it has the row's format, and its bits under the mask are the row's match. -/
abbrev Row.Matches (r : Row) (c : Code) : Prop :=
  c.format = r.format ∧ c.bits &&& r.mask = r.pattern

/-- The row of spec/opcode_table.json that each constructor stands for. -/
def Instr.row : Instr → Row
  | .reset => ⟨.in14, 0x2000, 0x2000⟩
  | .tick => ⟨.in14, 0x0000, 0x3000⟩
  | .tickWr _ => ⟨.in14, 0x1000, 0x3000⟩
  | .decode0 => ⟨.segdec4, 0x0, 0xF⟩
  | .decode1 => ⟨.segdec4, 0x1, 0xF⟩
  | .decode2 => ⟨.segdec4, 0x2, 0xF⟩
  | .decode3 => ⟨.segdec4, 0x3, 0xF⟩
  | .decode4 => ⟨.segdec4, 0x4, 0xF⟩
  | .decode5 => ⟨.segdec4, 0x5, 0xF⟩
  | .decode6 => ⟨.segdec4, 0x6, 0xF⟩
  | .decode7 => ⟨.segdec4, 0x7, 0xF⟩
  | .decode8 => ⟨.segdec4, 0x8, 0xF⟩
  | .decode9 => ⟨.segdec4, 0x9, 0xF⟩
  | .decodeA => ⟨.segdec4, 0xA, 0xF⟩
  | .decodeB => ⟨.segdec4, 0xB, 0xF⟩
  | .decodeC => ⟨.segdec4, 0xC, 0xF⟩
  | .decodeD => ⟨.segdec4, 0xD, 0xF⟩
  | .decodeE => ⟨.segdec4, 0xE, 0xF⟩
  | .decodeF => ⟨.segdec4, 0xF, 0xF⟩
  | .select001 => ⟨.nibsel3, 0b001, 0b111⟩
  | .select010 => ⟨.nibsel3, 0b010, 0b111⟩
  | .select100 => ⟨.nibsel3, 0b100, 0b111⟩

/-- The word of the format that `nbits` bits belong to. Formats are told apart by the input a word stands at (R70),
which a bare number does not say: 3 bits are NIBSEL3, 4 bits SEGDEC4, 14 bits IN14, and rounded up to whole bytes 16
bits are IN14. DESIGN CHOICE (log 16): 8 bits, to which both SEGDEC4 and NIBSEL3 round up, are read as SEGDEC4. -/
def tableCode (nbits w : Nat) : Option Code :=
  match nbits with
  | 3 => if w < 8 then some (.nibsel3 (BitVec.ofNat 3 w)) else none
  | 4 => if w < 16 then some (.segdec4 (BitVec.ofNat 4 w)) else none
  | 8 => if w < 16 then some (.segdec4 (BitVec.ofNat 4 w)) else none
  | 14 => if w < 16384 then some (.in14 (BitVec.ofNat 14 w)) else none
  | 16 => if w < 16384 then some (.in14 (BitVec.ofNat 14 w)) else none
  | _ => none

/-- What the decoder reads from the bits `w` of a row of `nbits` bits, numbered as spec/opcode_table.json numbers them. -/
def decodeTableWord (nbits w : Nat) : Option Instr :=
  match tableCode nbits w with
  | some c => (decode c).toOption
  | none => none

end Sys2Proof
end

