-- ==== Sys2Proof/Machine/State.lean ====
section
/-! DEFINITION. The machine's state as plain data, why a step can stop, and the state after reset. -/

namespace Sys2Proof.Machine

/-- What the clock does next: an edge, at which the block samples an input word (R61), or nothing while the clock is
stopped (R171, log 15). -/
inductive ClockEvent where
  | edge (word : InputWord)
  | stopped
  deriving DecidableEq, Repr

/-- The block raises no exception and never halts, faults or waits (R150, R160), so there is no fault: nothing raises
one. Safe. -/
inductive Fault where
  deriving DecidableEq, Repr

/-- Why something is refused. -/
inductive Refusal where
  /-- Raised by an arm of `exec` for an operation without a meaning; no arm is so. Safe. -/
  | notModelled (mnemonic : String)
  /-- ConstructionError (R161): raised by `construct` for a clock period that is not finite and positive, never by a
  step. Safe. -/
  | constructionError (p : ClockPeriod)
  deriving DecidableEq, Repr

/-- The state during one cycle. `count`, `digit` and `value` are the block's three registers (R20). `nibble` and
`segments` are the combinational signals of the cycle (R141). The rest is the model's: the construction constant, what
the environment will present, and the index of the cycle. -/
structure State where
  /-- the threshold R, fixed at construction (R8, R97); log 1 -/
  refreshCount : Nat
  /-- the RefreshCounter (R21); a natural number as in R20, log 12 -/
  count : Nat
  /-- the DigitScanner's state (R22) -/
  digit : Digit
  /-- the ValueRegister (R23) -/
  value : Value
  /-- the NibbleSelector's output in this cycle (R130, R141); log 9 -/
  nibble : Nibble
  /-- the SegmentDecoder's output in this cycle, the port `segments` (R60, R141); log 9 -/
  segments : Segments
  /-- the clock events to come, oldest first (R61, R69, R171); log 8 -/
  stimulus : List ClockEvent
  /-- the index t of this cycle (R140), which the free draws are taken at; log 7 -/
  cycle : Nat
  deriving DecidableEq, Repr

/-- The reset state of a block built with threshold R (R180), in its cycle 0 (R140), with its outputs (R182) and no
stimulus listed. -/
def State.resetWith (R : Nat) : State where
  refreshCount := R
  count := 0
  digit := 0b001#3
  value := 0x000#12
  nibble := 0x0#4
  segments := 0b1000000#7
  stimulus := []
  cycle := 0

/-- The machine right after reset, for a threshold that is a free value (R8; log 1). -/
def State.reset : State := State.resetWith Config.refreshCount

end Sys2Proof.Machine
end

