-- ==== Sys2Proof/Machine/Flags.lean ====
section
/-! DEFINITION. The block has no flags and no condition codes (R27). Its one status-like signal is `advance`. -/

namespace Sys2Proof.Machine

/-- ADVANCE: `advance := (count = R)`, compared on the count as it stands in the cycle, before the edge's increment
(R92, conflict C3). Combinational: not stored and not a port (R60, decision D12). -/
def State.advance (s : State) : Bool := s.count == s.refreshCount

end Sys2Proof.Machine
end

