-- ==== Sys2Proof/Machine/Operands.lean ====
section
/-! DEFINITION. The block's operands: the three nibble fields of the value, which one a digit selects, and the indices
the spec numbers digits and nibbles with. The one other operand, `wr_data`, is taken whole (R63). -/

namespace Sys2Proof.Machine

/-- Nibble 0, `value[3:0]` (R23, R66). -/
def nibble0 (v : Value) : Nibble := v.extractLsb' 0 4

/-- Nibble 1, `value[7:4]` (R23, R66). -/
def nibble1 (v : Value) : Nibble := v.extractLsb' 4 4

/-- Nibble 2, `value[11:8]` (R23, R66). -/
def nibble2 (v : Value) : Nibble := v.extractLsb' 8 4

/-- SELECT(digit, value) (R130); `none` where the result is UNSPECIFIED (R131). -/
def select (d : Digit) (v : Value) : Option Nibble :=
  if d = 0b100#3 then some (nibble0 v)
  else if d = 0b010#3 then some (nibble1 v)
  else if d = 0b001#3 then some (nibble2 v)
  else none

/-- The digit index i: the position of the set bit of a one-hot digit (R22). -/
def digitIndex (d : Digit) : Option Nat :=
  if d = 0b001#3 then some 0
  else if d = 0b010#3 then some 1
  else if d = 0b100#3 then some 2
  else none

/-- Nibble k of a value is `value[4k+3:4k]` (R45). -/
def nibbleAt (v : Value) (k : Nat) : Nibble := v.extractLsb' (4 * k) 4

end Sys2Proof.Machine
end

