-- ==== Sys2Proof/Machine/Ops.lean ====
section
/-! DEFINITION. The named operations that the meanings are written over: the RefreshTimer's and the DigitScanner's
updates, the configuration write, the reset of the registers, the drive of the two combinational signals, the
SegmentDecoder's table. The block takes no exception and returns from none (R160, R165), so there is no operation for
either. -/

namespace Sys2Proof.Machine

/-- Go on with `f` from a next state; stop where the first part stops. -/
def andThen (o : Host.Outcome State Fault Refusal) (f : State → Host.Outcome State Fault Refusal) :
    Host.Outcome State Fault Refusal :=
  match o with
  | .next s => f s
  | .fault r => .fault r
  | .refused r => .refused r

/-- COUNT: the count after an edge with `rst = 0` (R93). -/
def State.countNext (s : State) : Nat := if s.advance then 0 else s.count + 1

/-- ROTATE: `{digit[0], digit[2], digit[1]}` (R110, conflict C1; log 11), on every 3-bit value (decision D10; log 10). -/
def rotate (d : Digit) : Digit :=
  BitVec.ofBool (d.getLsbD 0) ++ BitVec.ofBool (d.getLsbD 2) ++ BitVec.ofBool (d.getLsbD 1)

/-- The digit after an edge with `rst = 0`: ROTATE on `advance` (R110), HOLD without it (R111). -/
def State.digitNext (s : State) : Digit := if s.advance then rotate s.digit else s.digit

/-- The RefreshTimer and the DigitScanner at an edge with `rst = 0`: both new values are computed from the state before
the edge (R50, R142). -/
def State.clockTick (s : State) : State := { s with count := s.countNext, digit := s.digitNext }

/-- CfgWrite: all 12 bits of the value are replaced (R41, R42). -/
def State.cfgWrite (s : State) (v : Value) : State := { s with value := v }

/-- The three registers at their reset values (R143, R180; log 3). -/
def State.resetRegisters (s : State) : State := { s with count := 0, digit := 0b001#3, value := 0x000#12 }

/-- DECODE(n), the table of R80, each string written with `segments[6]` first (R13; log 14). -/
def segmentPattern (n : Nibble) : Segments :=
  match n.toNat with
  | 0 => 0b1000000#7
  | 1 => 0b1111001#7
  | 2 => 0b0100100#7
  | 3 => 0b0110000#7
  | 4 => 0b0011001#7
  | 5 => 0b0010010#7
  | 6 => 0b0000010#7
  | 7 => 0b1111000#7
  | 8 => 0b0000000#7
  | 9 => 0b0010000#7
  | 10 => 0b0001000#7
  | 11 => 0b0000011#7
  | 12 => 0b1000110#7
  | 13 => 0b0100001#7
  | 14 => 0b0000110#7
  | _ => 0b0001110#7  -- 0xF, the one nibble left

/-- Segment i is lit: its bit is 0, the outputs being active-low (R65, R81). -/
def segmentLit (p : Segments) (i : Nat) : Bool := !p.getLsbD i

/-- Drive the selected nibble (R141). -/
def State.driveNibble (s : State) (n : Nibble) : State := { s with nibble := n }

/-- Drive the port `segments` (R141). -/
def State.driveSegments (s : State) (p : Segments) : State := { s with segments := p }

/-- The nibble selected in this cycle: SELECT(digit, value), or the cycle's free draw where that is UNSPECIFIED (R130,
R131; log 7). -/
def State.selectedNibble (s : State) : Nibble := (select s.digit s.value).getD (Config.freeNibble s.cycle)

/-- The combinational path of a cycle (R141): `nibble := SELECT(digit, value); segments := DECODE(nibble)`. The outputs
follow the registers with no added latency (R189); the path stops for no state (R150, R162). -/
def State.settle (s : State) : State :=
  (s.driveNibble s.selectedNibble).driveSegments (segmentPattern s.selectedNibble)

/-- The outputs of one cycle (R60). -/
structure Outputs where
  digitSelect : Digit
  segments : Segments
  deriving DecidableEq, Repr

/-- Out(s): the outputs as the function of `digit` and `value` that R141 gives. -/
def State.out (s : State) : Outputs := ⟨s.digit, segmentPattern s.selectedNibble⟩

/-- What stands at the block's output ports in this state. -/
def State.ports (s : State) : Outputs := ⟨s.digit, s.segments⟩

/-- The next clock event: the oldest listed one, or an edge with a free input word where none is listed (log 8). -/
def State.nextEvent (s : State) : ClockEvent :=
  match s.stimulus with
  | e :: _ => e
  | [] => .edge (Config.freeInput s.cycle)

/-- The event is consumed: each line of a stimulus is used at one edge (R68, R69). -/
def State.consume (s : State) : State := { s with stimulus := s.stimulus.tail }

/-- An edge ends the current cycle and begins the next (R140). -/
def State.endCycle (s : State) : State := { s with cycle := s.cycle + 1 }

/-- Construct(p) (R161): a clock period that is not finite and positive is refused with ConstructionError; any other fixes
R (R90). R161 fixes R alone; DESIGN CHOICE (log 1): the answer is the state that a run of the block so built starts in,
the reset state (R183, R184, decision D5; log 5). That is no claim on what the registers hold at power-up. -/
def construct (p : ClockPeriod) : Host.Outcome State Fault Refusal :=
  match p with
  | .finite ns =>
    if 0 < ns then .next (State.resetWith (Config.refreshCountOf ns)) else .refused (.constructionError p)
  | .nan => .refused (.constructionError p)
  | .posInf => .refused (.constructionError p)
  | .negInf => .refused (.constructionError p)

end Sys2Proof.Machine
end

