-- ==== Sys2Proof/Machine/Controller.lean ====
section
/-! DEFINITION. The three operations of a clock edge (format IN14, spec/44_controller.md R142-R145). -/

namespace Sys2Proof.Machine

/-- RESET (R143): every register takes its reset value; a write at the same edge is lost (R164; log 4). -/
def execReset (s : State) : Host.Outcome State Fault Refusal := .next s.resetRegisters

/-- TICK (R144): count and digit update, the value holds. -/
def execTick (s : State) : Host.Outcome State Fault Refusal := .next s.clockTick

/-- TICK_WR (R145): as TICK, and the value takes `wr_data`. -/
def execTickWr (wrData : Value) (s : State) : Host.Outcome State Fault Refusal := .next (s.clockTick.cfgWrite wrData)

end Sys2Proof.Machine
end

