-- ==== Sys2Proof/Machine/NibbleSelector.lean ====
section
/-! DEFINITION. The three rows of the NibbleSelector (format NIBSEL3, spec/43_nibble_selector.md R130): each drives
`nibble` with one field of the value. Combinational: no register changes (R44). -/

namespace Sys2Proof.Machine

/-- SELECT_001: `nibble := value[11:8]` (R130). -/
def execSelect001 (s : State) : Host.Outcome State Fault Refusal := .next (s.driveNibble (nibble2 s.value))

/-- SELECT_010: `nibble := value[7:4]` (R130). -/
def execSelect010 (s : State) : Host.Outcome State Fault Refusal := .next (s.driveNibble (nibble1 s.value))

/-- SELECT_100: `nibble := value[3:0]` (R130). -/
def execSelect100 (s : State) : Host.Outcome State Fault Refusal := .next (s.driveNibble (nibble0 s.value))

end Sys2Proof.Machine
end

