-- ==== Sys2Proof/Machine/SegmentDecoder.lean ====
section
/-! DEFINITION. The sixteen rows of the SegmentDecoder (format SEGDEC4, spec/40_segment_decoder.md R80): each drives
`segments` with its row's pattern. Combinational: no register changes (R82). -/

namespace Sys2Proof.Machine

/-- DECODE_0: `segments := 0b1000000` (R80). -/
def execDecode0 (s : State) : Host.Outcome State Fault Refusal :=
  .next (s.driveSegments (segmentPattern 0x0#4))

/-- DECODE_1: `segments := 0b1111001` (R80). -/
def execDecode1 (s : State) : Host.Outcome State Fault Refusal :=
  .next (s.driveSegments (segmentPattern 0x1#4))

/-- DECODE_2: `segments := 0b0100100` (R80). -/
def execDecode2 (s : State) : Host.Outcome State Fault Refusal :=
  .next (s.driveSegments (segmentPattern 0x2#4))

/-- DECODE_3: `segments := 0b0110000` (R80). -/
def execDecode3 (s : State) : Host.Outcome State Fault Refusal :=
  .next (s.driveSegments (segmentPattern 0x3#4))

/-- DECODE_4: `segments := 0b0011001` (R80). -/
def execDecode4 (s : State) : Host.Outcome State Fault Refusal :=
  .next (s.driveSegments (segmentPattern 0x4#4))

/-- DECODE_5: `segments := 0b0010010` (R80). -/
def execDecode5 (s : State) : Host.Outcome State Fault Refusal :=
  .next (s.driveSegments (segmentPattern 0x5#4))

/-- DECODE_6: `segments := 0b0000010` (R80). -/
def execDecode6 (s : State) : Host.Outcome State Fault Refusal :=
  .next (s.driveSegments (segmentPattern 0x6#4))

/-- DECODE_7: `segments := 0b1111000` (R80). -/
def execDecode7 (s : State) : Host.Outcome State Fault Refusal :=
  .next (s.driveSegments (segmentPattern 0x7#4))

/-- DECODE_8: `segments := 0b0000000` (R80). -/
def execDecode8 (s : State) : Host.Outcome State Fault Refusal :=
  .next (s.driveSegments (segmentPattern 0x8#4))

/-- DECODE_9: `segments := 0b0010000` (R80). -/
def execDecode9 (s : State) : Host.Outcome State Fault Refusal :=
  .next (s.driveSegments (segmentPattern 0x9#4))

/-- DECODE_A: `segments := 0b0001000` (R80). -/
def execDecodeA (s : State) : Host.Outcome State Fault Refusal :=
  .next (s.driveSegments (segmentPattern 0xA#4))

/-- DECODE_B: `segments := 0b0000011` (R80). -/
def execDecodeB (s : State) : Host.Outcome State Fault Refusal :=
  .next (s.driveSegments (segmentPattern 0xB#4))

/-- DECODE_C: `segments := 0b1000110` (R80). -/
def execDecodeC (s : State) : Host.Outcome State Fault Refusal :=
  .next (s.driveSegments (segmentPattern 0xC#4))

/-- DECODE_D: `segments := 0b0100001` (R80). -/
def execDecodeD (s : State) : Host.Outcome State Fault Refusal :=
  .next (s.driveSegments (segmentPattern 0xD#4))

/-- DECODE_E: `segments := 0b0000110` (R80). -/
def execDecodeE (s : State) : Host.Outcome State Fault Refusal :=
  .next (s.driveSegments (segmentPattern 0xE#4))

/-- DECODE_F: `segments := 0b0001110` (R80). -/
def execDecodeF (s : State) : Host.Outcome State Fault Refusal :=
  .next (s.driveSegments (segmentPattern 0xF#4))

end Sys2Proof.Machine
end

