-- ==== Sys2Proof/Machine/Dispatch.lean ====
section
/-! DEFINITION. One arm per constructor of Instr, each one call of its meaning. -/

namespace Sys2Proof.Machine

/-- The meaning of one row of the opcode table. -/
def exec (i : Instr) (s : State) : Host.Outcome State Fault Refusal :=
  match i with
  | .reset => Sys2Proof.Machine.execReset s
  | .tick => Sys2Proof.Machine.execTick s
  | .tickWr wrData => Sys2Proof.Machine.execTickWr wrData s
  | .decode0 => Sys2Proof.Machine.execDecode0 s
  | .decode1 => Sys2Proof.Machine.execDecode1 s
  | .decode2 => Sys2Proof.Machine.execDecode2 s
  | .decode3 => Sys2Proof.Machine.execDecode3 s
  | .decode4 => Sys2Proof.Machine.execDecode4 s
  | .decode5 => Sys2Proof.Machine.execDecode5 s
  | .decode6 => Sys2Proof.Machine.execDecode6 s
  | .decode7 => Sys2Proof.Machine.execDecode7 s
  | .decode8 => Sys2Proof.Machine.execDecode8 s
  | .decode9 => Sys2Proof.Machine.execDecode9 s
  | .decodeA => Sys2Proof.Machine.execDecodeA s
  | .decodeB => Sys2Proof.Machine.execDecodeB s
  | .decodeC => Sys2Proof.Machine.execDecodeC s
  | .decodeD => Sys2Proof.Machine.execDecodeD s
  | .decodeE => Sys2Proof.Machine.execDecodeE s
  | .decodeF => Sys2Proof.Machine.execDecodeF s
  | .select001 => Sys2Proof.Machine.execSelect001 s
  | .select010 => Sys2Proof.Machine.execSelect010 s
  | .select100 => Sys2Proof.Machine.execSelect100 s

end Sys2Proof.Machine
end

