-- ==== Sys2Proof/Machine/Edge.lean ====
section
/-! DEFINITION. One whole clock edge (spec/44_controller.md R140, R142). -/

namespace Sys2Proof.Machine

/-- One clock edge: the operation that the sampled input word selects, and then the next cycle with its outputs. -/
def runEdge (w : InputWord) (s : State) : Host.Outcome State Fault Refusal :=
  andThen (exec (decodeIn14 w) s) (fun t => .next t.endCycle.settle)

end Sys2Proof.Machine
end

