-- ==== Sys2Proof/Machine/Stimulus.lean ====
section
/-! DEFINITION. The stimulus notation of spec/30_encoding.md R69, one line per clock edge. -/

namespace Sys2Proof.Machine

/-- The lines of the notation (R69). -/
inductive Line where
  /-- `RESET` -/
  | reset
  /-- `RESET WR v`: the write is ignored -/
  | resetWr (v : Value)
  /-- `TICK` -/
  | tick
  /-- `WR v` -/
  | wr (v : Value)
  /-- `TICK*n`, the only pseudo-line -/
  | ticks (n : Nat)
  deriving DecidableEq, Repr

/-- The input words of a line, one per edge (R69). -/
def Line.words : Line → List InputWord
  | .reset => [0x2000#14]
  | .resetWr v => [inputWord true true v]
  | .tick => [0x0000#14]
  | .wr v => [inputWord false true v]
  | .ticks n => List.replicate n 0x0000#14

/-- The clock events of a program, a finite list of lines (R69). -/
def events (program : List Line) : List ClockEvent := (program.flatMap Line.words).map ClockEvent.edge

/-- The state with a program as its stimulus (R69; log 8). -/
def State.load (s : State) (program : List Line) : State := { s with stimulus := events program }

end Sys2Proof.Machine
end

