-- ==== Sys2Proof/Machine/Step.lean ====
section
/-! DEFINITION. One step: one clock event. -/

namespace Sys2Proof.Machine

/-- One step (R140, R142, R171): at an edge the operation of its input word, then the next cycle's outputs; while the
clock is stopped only the outputs, which follow the registers. -/
def step (s : State) : Host.Outcome State Fault Refusal :=
  match s.nextEvent with
  | .edge w => runEdge w s.consume
  | .stopped => .next s.consume.settle

/-- The state whose next step runs the row of the word `w`. An input word is the word sampled at the next edge. A
SEGDEC4 or NIBSEL3 row is no operation of an edge but the word standing at a combinational part's input, so its state
has a stopped clock as its next event and that word standing there: for a nibble, in every field of the value (with a
one-hot digit); for a digit, in the register `digit`. For 8 bits both are so where the word is also a one-hot digit
(log 16). -/
def State.withFetchWord (s : State) (nbits w : Nat) : State :=
  let atDecoder (d : Digit) : State :=
    { s with digit := d, value := BitVec.ofNat 12 (273 * w), stimulus := .stopped :: s.stimulus }
  let selectable : Digit := if Digit.oneHot s.digit then s.digit else 0b001#3
  match nbits with
  | 3 => { s with digit := BitVec.ofNat 3 w, stimulus := .stopped :: s.stimulus }
  | 4 => atDecoder selectable
  | 8 => atDecoder (if w < 8 && Digit.oneHot (BitVec.ofNat 3 w) then BitVec.ofNat 3 w else selectable)
  | _ => { s with stimulus := .edge (BitVec.ofNat 14 w) :: s.stimulus }

end Sys2Proof.Machine
end

