-- ==== Sys2Proof/Safety.lean ====
section
/-! DEFINITION. What a good state is, in the terms claims use. -/

namespace Sys2Proof.Machine

/-- The outputs are those of the cycle's registers (R141). -/
abbrev State.Settled (s : State) : Prop :=
  s.nibble = s.selectedNibble ∧ s.segments = segmentPattern s.nibble

/-- The invariant: the digit is one-hot (R24), the count is at most R (R25), the outputs are settled (R141). -/
abbrev State.Inv (s : State) : Prop :=
  Digit.oneHot s.digit = true ∧ s.count ≤ s.refreshCount ∧ s.Settled

/-- Edges with these input words, one after another. -/
def edges (ws : List InputWord) : List ClockEvent := ws.map ClockEvent.edge

/-- No word asks for a reset. -/
abbrev NoReset (ws : List InputWord) : Prop := ∀ w ∈ ws, InputWord.rst w = false

end Sys2Proof.Machine
end

