-- ==== Sys2Proof/Certificates/Slice0/Obligations.lean ====
section
/-! DEFINITION. The statements for the provers. Each docstring names the rule of spec/ it comes from. -/

open Sys2Proof Sys2Proof.Machine

/-! ## Encoding -/

/-- R61, R62, R70: a few words written out bit by bit from the encodings of spec/30_encoding.md. -/
def Obligations.WrittenOutWordsDecode : Prop :=
  decode (.in14 0b10000000000000#14) = .ok .reset ∧
  decode (.in14 0b11011101110111#14) = .ok .reset ∧
  decode (.in14 0b00000000000000#14) = .ok .tick ∧
  decode (.in14 0b00111111111111#14) = .ok .tick ∧
  decode (.in14 0b01101010111100#14) = .ok (.tickWr 0xABC#12) ∧
  decode (.segdec4 0b1100#4) = .ok .decodeC ∧
  decode (.segdec4 0b0110#4) = .ok .decode6 ∧
  decode (.nibsel3 0b100#3) = .ok .select100 ∧
  decode (.nibsel3 0b001#3) = .ok .select001

/-- R62, R70: decoding the encoding of any operation gives it back, with every value of the operand; and the encoding is
itself a well-formed word. -/
def Obligations.DecodeOfEncodeIsTheInstruction : Prop :=
  ∀ i : Instr, i.wf = true → (encode i).wf = true ∧ decode (encode i) = .ok i

/-- The match and mask columns of spec/opcode_table.json: a word decodes to an operation only if it matches that
operation's row, and TICK_WR takes its operand from `IN[11:0]`, bit for bit (R61, R63). -/
def Obligations.DecodedWordMatchesItsRow : Prop :=
  ∀ (c : Code) (i : Instr), decode c = .ok i →
    i.row.Matches c ∧
    ∀ v : Value, i = .tickWr v →
      ∃ w : InputWord, c = .in14 w ∧ ∀ j : Nat, j < 12 → v.getLsbD j = w.getLsbD j

/-- Every word that matches a row decodes to an operation of that row: no bit outside the mask matters to which
operation it is (R62). With the statement above, no two rows overlap. -/
def Obligations.MatchingWordDecodesToItsRow : Prop :=
  ∀ (c : Code) (i : Instr), i.row.Matches c → ∃ j : Instr, decode c = .ok j ∧ j.row = i.row

/-- R67: the only words refused are the five digits that are not one-hot, each by name. -/
def Obligations.OnlyReservedDigitsAreRefused : Prop :=
  ∀ (c : Code) (e : DecodeError), decode c = .error e ↔
    ∃ d : Digit, c = .nibsel3 d ∧ e = .reservedDigit d ∧ d ≠ 0b001#3 ∧ d ≠ 0b010#3 ∧ d ≠ 0b100#3

/-- R69: each line of the stimulus notation expands to words of the operation it names, one per edge. -/
def Obligations.StimulusLinesDecode : Prop :=
  (Line.reset.words.map decodeIn14 = [.reset]) ∧
  (∀ v, (Line.resetWr v).words.map decodeIn14 = [.reset]) ∧
  (Line.tick.words.map decodeIn14 = [.tick]) ∧
  (∀ v, (Line.wr v).words.map decodeIn14 = [.tickWr v]) ∧
  (∀ n, (Line.ticks n).words.map decodeIn14 = List.replicate n .tick)

/-! ## Construction -/

/-- R161: a clock period that is a finite number greater than 0 is accepted and fixes the threshold of R90; any other
period (zero, negative, or no number) is refused with ConstructionError. That non-finite periods are refused is the
spec's decision D17 (log 19). R161 fixes R alone and says nothing of the registers: that `construct` answers
`State.resetWith`, the start of every run, is the model's choice (log 1), made over the spec's decision D5 that runs
start in the reset state (R183, R184; log 5). It does not say that power-up equals reset. -/
def Obligations.ConstructionRefusesBadPeriods : Prop :=
  (∀ ns : Rat, 0 < ns →
    construct (.finite ns) = .next (State.resetWith (Config.refreshCountOf ns))) ∧
  (∀ ns : Rat, ns ≤ 0 → construct (.finite ns) = .refused (.constructionError (.finite ns))) ∧
  construct .nan = .refused (.constructionError .nan) ∧
  construct .posInf = .refused (.constructionError .posInf) ∧
  construct .negInf = .refused (.constructionError .negInf)

/-- R90 and R188: for a positive period p the threshold R is floor(2_000_000 / p), so that R p <= 2_000_000 < (R + 1) p:
the refresh interval (R + 1) p is above 2 ms by at most one clock period. -/
def Obligations.ThresholdIsFloorOfQuotient : Prop :=
  ∀ p : Rat, 0 < p →
    (Config.refreshCountOf p : Int) = ⌊(2000000 : Rat) / p⌋ ∧
    (Config.refreshCountOf p : Rat) * p ≤ 2000000 ∧ 2000000 < ((Config.refreshCountOf p : Rat) + 1) * p

/-- R91: R = 0 happens exactly for p > 2_000_000, and then, from the reset state of such a block on, every edge without
a reset rotates the digit. -/
def Obligations.ThresholdZeroAdvancesEveryCycle : Prop :=
  (∀ p : Rat, 0 < p → (Config.refreshCountOf p = 0 ↔ 2000000 < p)) ∧
  ∀ (s : State) (w : InputWord) (rest : List ClockEvent),
    s.refreshCount = 0 → s.count ≤ s.refreshCount → s.stimulus = .edge w :: rest → InputWord.rst w = false →
      s.advance = true ∧ ∃ t, step s = .next t ∧ t.digit = rotate s.digit ∧ t.count = 0

/-- R9, R95: while count <= R both the count and the count after the next edge fit in CNT_W bits, so nothing wraps; and
CNT_W is the least width of at least one bit that holds R. The width is the spec's decision D3. -/
def Obligations.CounterWidthSuffices : Prop :=
  ∀ s : State, s.count ≤ s.refreshCount →
    s.count < 2 ^ Config.counterWidth s.refreshCount ∧
    s.countNext ≤ s.refreshCount ∧
    s.countNext < 2 ^ Config.counterWidth s.refreshCount ∧
    ∀ b : Nat, 1 ≤ b → s.refreshCount < 2 ^ b → Config.counterWidth s.refreshCount ≤ b

/-! ## Reset -/

/-- R180, R182: the registers and the outputs in the reset state, for every threshold; advance is then 1 exactly when
R = 0. -/
def Obligations.ResetStateValues : Prop :=
  (∀ R : Nat,
    (State.resetWith R).count = 0 ∧ (State.resetWith R).digit = 0b001#3 ∧ (State.resetWith R).value = 0x000#12 ∧
    (State.resetWith R).ports = ⟨0b001#3, 0b1000000#7⟩ ∧ (State.resetWith R).out = ⟨0b001#3, 0b1000000#7⟩ ∧
    (State.resetWith R).refreshCount = R ∧ ((State.resetWith R).advance = true ↔ R = 0)) ∧
  State.reset.count = 0 ∧ State.reset.digit = 0b001#3 ∧ State.reset.value = 0x000#12 ∧
  State.reset.ports = ⟨0b001#3, 0b1000000#7⟩

/-- R24, R25, R141: the invariant holds in the reset state. -/
def Obligations.ResetStateMeetsInvariant : Prop :=
  State.reset.Inv ∧ ∀ R : Nat, (State.resetWith R).Inv

/-- R143: RESET writes the three reset values and nothing else, in every state. That it clears the value is the spec's
decision D4 (log 3). -/
def Obligations.ResetWritesTheResetValues : Prop :=
  ∀ s : State, exec .reset s = .next { s with count := 0, digit := 0b001#3, value := 0x000#12 }

/-- R164, R180, R181: at an edge with rst = 1 the other input bits and the state before do not matter: two blocks in any
states, sampling any two words with rst = 1, are in the reset state in the next cycle, with its outputs, rotated by
neither; and a second such edge keeps it. That reset wins over a write is the spec's decision D7 (log 4). -/
def Obligations.ResetWinsOverEverything : Prop :=
  ∀ (s : State) (w x : InputWord) (rest : List ClockEvent),
    s.stimulus = .edge w :: .edge x :: rest → InputWord.rst w = true → InputWord.rst x = true →
      ∃ t u, step s = .next t ∧ step t = .next u ∧
        (t.count, t.digit, t.value, t.ports) = (0, 0b001#3, 0x000#12, ⟨0b001#3, 0b1000000#7⟩) ∧
        (u.count, u.digit, u.value, u.ports) = (0, 0b001#3, 0x000#12, ⟨0b001#3, 0b1000000#7⟩)

/-! ## The operations of an edge -/

/-- R144: what TICK does, in every state. -/
def Obligations.TickResult : Prop :=
  ∀ s : State, exec .tick s = .next { s with
    count := if s.count = s.refreshCount then 0 else s.count + 1
    digit := if s.count = s.refreshCount then rotate s.digit else s.digit }

/-- R145: what TICK_WR does, in every state: count and digit as TICK, the value replaced whole; a write and a rotation
at one edge both take effect; writing the value already held is a TICK; and the next cycle shows the new digit's nibble
of the new value. -/
def Obligations.TickWrResult : Prop :=
  ∀ (s : State) (v : Value),
    exec (.tickWr v) s = .next { s with
      count := if s.count = s.refreshCount then 0 else s.count + 1
      digit := if s.count = s.refreshCount then rotate s.digit else s.digit
      value := v } ∧
    (v = s.value → exec (.tickWr v) s = exec .tick s) ∧
    ∀ rest : List ClockEvent, s.stimulus = .edge (inputWord false true v) :: rest →
      ∃ t, step s = .next t ∧ t.value = v ∧
        t.digit = (if s.count = s.refreshCount then rotate s.digit else s.digit) ∧
        ∀ n : Nibble, select t.digit v = some n → t.ports = ⟨t.digit, segmentPattern n⟩

/-- Frame of the operations of an edge (R97, R142): the threshold, the signals of the cycle, the stimulus and the index
of the cycle are unchanged by the operation itself, and TICK leaves the value. -/
def Obligations.EdgeOperationsFrame : Prop :=
  ∀ (i : Instr) (s : State), i.row.format = .in14 →
    ∃ t, exec i s = .next t ∧ t.refreshCount = s.refreshCount ∧ t.nibble = s.nibble ∧ t.segments = s.segments ∧
      t.stimulus = s.stimulus ∧ t.cycle = s.cycle ∧ (i = .tick → t.value = s.value)

/-- R142: the whole per-edge update. In every state and for every input word a step has a next state, whose three
registers are Step of the three registers before the edge. -/
def Obligations.StepIsThePerEdgeUpdate : Prop :=
  ∀ (s : State) (w : InputWord) (rest : List ClockEvent), s.stimulus = .edge w :: rest →
    ∃ t, step s = .next t ∧
      (t.count, t.digit, t.value) =
        if w.getLsbD 13 = true then (0, 0b001#3, 0x000#12)
        else
          ( if s.count = s.refreshCount then 0 else s.count + 1,
            if s.count = s.refreshCount then
              BitVec.ofBool (s.digit.getLsbD 0) ++ BitVec.ofBool (s.digit.getLsbD 2)
                ++ BitVec.ofBool (s.digit.getLsbD 1)
            else s.digit,
            if w.getLsbD 12 = true then w.extractLsb' 0 12 else s.value )

/-- R92: advance is 1 exactly in a cycle whose count, as it stands before the edge's increment, is R; with R = 0 it is 1
in every cycle (in which count <= R, the invariant R25). -/
def Obligations.AdvanceIsCountEqualsThreshold : Prop :=
  (∀ s : State, s.advance = true ↔ s.count = s.refreshCount) ∧
  (∀ s : State, s.refreshCount = 0 → s.count ≤ s.refreshCount → s.advance = true) ∧
  (∀ s : State, s.refreshCount = 2 → s.count = 2 → s.advance = true) ∧
  (∀ s : State, s.refreshCount = 2 → s.count = 1 → s.advance = false)

/-- R110: at an edge with rst = 0 and advance = 1 the digit's bits move as {digit[0], digit[2], digit[1]}, with or
without a write; on the one-hot digits this is the cycle 001, 100, 010, 001. On the other digits (reached by no run) the
same permutation applies, which is the spec's decision D10 (log 10). -/
def Obligations.AdvanceRotatesTheDigit : Prop :=
  (∀ (s : State) (w : InputWord) (rest : List ClockEvent),
    s.stimulus = .edge w :: rest → InputWord.rst w = false → s.advance = true →
      ∃ t, step s = .next t ∧ t.digit.getLsbD 2 = s.digit.getLsbD 0 ∧ t.digit.getLsbD 1 = s.digit.getLsbD 2 ∧
        t.digit.getLsbD 0 = s.digit.getLsbD 1) ∧
  rotate 0b001#3 = 0b100#3 ∧ rotate 0b100#3 = 0b010#3 ∧ rotate 0b010#3 = 0b001#3 ∧
  rotate 0b000#3 = 0b000#3 ∧ rotate 0b111#3 = 0b111#3 ∧
  rotate 0b011#3 = 0b101#3 ∧ rotate 0b101#3 = 0b110#3 ∧ rotate 0b110#3 = 0b011#3

/-- R111: at an edge with rst = 0 and advance = 0 the digit keeps its value, with or without a write. -/
def Obligations.NoAdvanceHoldsTheDigit : Prop :=
  ∀ (s : State) (w : InputWord) (rest : List ClockEvent),
    s.stimulus = .edge w :: rest → InputWord.rst w = false → s.advance = false →
      ∃ t, step s = .next t ∧ t.digit = s.digit

/-- R113, R132: in terms of the digit index i and the nibble index k = 2 - i, a rotation is i <- (i + 2) mod 3 and
k <- (k + 1) mod 3, and SELECT returns nibble k. -/
def Obligations.RotationStepsTheIndices : Prop :=
  ∀ (d : Digit) (i : Nat), digitIndex d = some i →
    i < 3 ∧ d.getLsbD i = true ∧
    (∀ v : Value, select d v = some (nibbleAt v (2 - i))) ∧
    ∃ j, digitIndex (rotate d) = some j ∧ j = (i + 2) % 3 ∧ 2 - j = (2 - i + 1) % 3

/-! ## NibbleSelector and SegmentDecoder -/

/-- R130: the three rows of the NibbleSelector and what a one-hot digit selects; a value that differs only in other
nibbles selects the same; the worked example 0xABC. For any other digit R130 says UNSPECIFIED; that the nibble is then
the cycle's free draw, whatever that is, is the model's choice (log 7) between the two treatments, a free draw or a
fault, that R131 and 93_implementation_defined.md section 1 allow. -/
def Obligations.SelectorDrivesTheSelectedNibble : Prop :=
  (∀ s : State,
    exec .select100 s = .next { s with nibble := s.value.extractLsb' 0 4 } ∧
    exec .select010 s = .next { s with nibble := s.value.extractLsb' 4 4 } ∧
    exec .select001 s = .next { s with nibble := s.value.extractLsb' 8 4 }) ∧
  (∀ s : State,
    s.settle.nibble =
      if s.digit = 0b100#3 then s.value.extractLsb' 0 4
      else if s.digit = 0b010#3 then s.value.extractLsb' 4 4
      else if s.digit = 0b001#3 then s.value.extractLsb' 8 4
      else Config.freeNibble s.cycle) ∧
  (∀ v x : Value, v.extractLsb' 8 4 = x.extractLsb' 8 4 → select 0b001#3 v = select 0b001#3 x) ∧
  (∀ v x : Value, v.extractLsb' 4 4 = x.extractLsb' 4 4 → select 0b010#3 v = select 0b010#3 x) ∧
  (∀ v x : Value, v.extractLsb' 0 4 = x.extractLsb' 0 4 → select 0b100#3 v = select 0b100#3 x) ∧
  select 0b100#3 0xABC#12 = some 0xC#4 ∧ select 0b010#3 0xABC#12 = some 0xB#4 ∧ select 0b001#3 0xABC#12 = some 0xA#4

/-- R131, R162: a digit that is not one-hot stops nothing and raises nothing. That the cycle settles on the free draw of
its index is the model's choice (log 7) between a free draw and a fault, which R131 allows; nothing is claimed of the
draw. That an edge without a reset goes on to a digit that is again not one-hot is neither R131 nor R162: it follows from
the permutation that R110 applies to every digit, which is the spec's decision D10 (log 10). -/
def Obligations.NonOneHotDigitGoesOn : Prop :=
  ∀ s : State, Digit.oneHot s.digit = false →
    s.settle = { s with
      nibble := Config.freeNibble s.cycle
      segments := segmentPattern (Config.freeNibble s.cycle) } ∧
    ∀ (w : InputWord) (rest : List ClockEvent), s.stimulus = .edge w :: rest → InputWord.rst w = false →
      ∃ t, step s = .next t ∧ Digit.oneHot t.digit = false ∧
        t.ports = ⟨t.digit, segmentPattern (Config.freeNibble (s.cycle + 1))⟩

/-- R80: the sixteen rows of the SegmentDecoder, each driving its pattern and writing nothing else; the lit bits of each;
0x8 lights every segment and no nibble leaves all dark. -/
def Obligations.DecoderTable : Prop :=
  (∀ s : State,
    exec .decode0 s = .next { s with segments := 0b1000000#7 } ∧
    exec .decode1 s = .next { s with segments := 0b1111001#7 } ∧
    exec .decode2 s = .next { s with segments := 0b0100100#7 } ∧
    exec .decode3 s = .next { s with segments := 0b0110000#7 } ∧
    exec .decode4 s = .next { s with segments := 0b0011001#7 } ∧
    exec .decode5 s = .next { s with segments := 0b0010010#7 } ∧
    exec .decode6 s = .next { s with segments := 0b0000010#7 } ∧
    exec .decode7 s = .next { s with segments := 0b1111000#7 } ∧
    exec .decode8 s = .next { s with segments := 0b0000000#7 } ∧
    exec .decode9 s = .next { s with segments := 0b0010000#7 } ∧
    exec .decodeA s = .next { s with segments := 0b0001000#7 } ∧
    exec .decodeB s = .next { s with segments := 0b0000011#7 } ∧
    exec .decodeC s = .next { s with segments := 0b1000110#7 } ∧
    exec .decodeD s = .next { s with segments := 0b0100001#7 } ∧
    exec .decodeE s = .next { s with segments := 0b0000110#7 } ∧
    exec .decodeF s = .next { s with segments := 0b0001110#7 }) ∧
  (∀ (n : Nibble) (s : State), exec (decodeSegdec4 n) s = .next { s with segments := segmentPattern n }) ∧
  (∀ r ∈ [(0x0#4, [0, 1, 2, 3, 4, 5]),
      (0x1#4, [1, 2]),
      (0x2#4, [0, 1, 3, 4, 6]),
      (0x3#4, [0, 1, 2, 3, 6]),
      (0x4#4, [1, 2, 5, 6]),
      (0x5#4, [0, 2, 3, 5, 6]),
      (0x6#4, [0, 2, 3, 4, 5, 6]),
      (0x7#4, [0, 1, 2]),
      (0x8#4, [0, 1, 2, 3, 4, 5, 6]),
      (0x9#4, [0, 1, 2, 3, 5, 6]),
      (0xA#4, [0, 1, 2, 4, 5, 6]),
      (0xB#4, [2, 3, 4, 5, 6]),
      (0xC#4, [0, 3, 4, 5]),
      (0xD#4, [1, 2, 3, 4, 6]),
      (0xE#4, [0, 3, 4, 5, 6]),
      (0xF#4, [0, 4, 5, 6])],
    ∀ i, i < 7 → (segmentLit (segmentPattern r.1) i = true ↔ i ∈ r.2)) ∧
  (∀ n : Nibble, segmentPattern n ≠ 0b1111111#7)

/-- R81: the decoder's output stands unchanged at the port segments after every step, and there a 0 bit is a lit
segment and a 1 bit a dark one. -/
def Obligations.SegmentsAreActiveLow : Prop :=
  ∀ s : State, ∃ t, step s = .next t ∧ t.ports.segments = segmentPattern t.nibble ∧
    ∀ i, i < 7 →
      (t.ports.segments.getLsbD i = false → segmentLit t.ports.segments i = true) ∧
      (t.ports.segments.getLsbD i = true → segmentLit t.ports.segments i = false)

/-- R84: the displayed pattern determines the nibble: two blocks that show the same segments after any step have
selected the same nibble. -/
def Obligations.SegmentsDetermineTheNibble : Prop :=
  ∀ s t : State, ∃ s' t', step s = .next s' ∧ step t = .next t' ∧
    (s'.segments = t'.segments → s'.nibble = t'.nibble)

/-- Frame of the combinational rows (R44, R82): whichever row of the decoder or the selector runs, the three registers,
the threshold, the stimulus and the index of the cycle are unchanged; a decoder row leaves the nibble, a selector row
the segments. -/
def Obligations.CombinationalRowsFrame : Prop :=
  ∀ (i : Instr) (s : State), i.row.format ≠ .in14 →
    ∃ t, exec i s = .next t ∧ t.refreshCount = s.refreshCount ∧ t.count = s.count ∧ t.digit = s.digit ∧
      t.value = s.value ∧ t.stimulus = s.stimulus ∧ t.cycle = s.cycle ∧
      (i.row.format = .segdec4 → t.nibble = s.nibble) ∧ (i.row.format = .nibsel3 → t.segments = s.segments)

/-! ## The step -/

/-- R140, R142: what one step runs. A listed edge runs the operation its word decodes to, then the next cycle's
combinational path. Where nothing is listed the word is the cycle's free input, which is the model's choice (log 8). A
stopped-clock event is a step that evaluates the combinational path alone: that event and its step are the model's choice
too (log 15); R171 says only that without an edge the state and the outputs stay as they are. -/
def Obligations.StepRunsTheDecodedOperation : Prop :=
  (∀ (s : State) (w : InputWord) (rest : List ClockEvent) (i : Instr),
    s.stimulus = .edge w :: rest → decode (.in14 w) = .ok i →
      step s = andThen (exec i { s with stimulus := rest }) (fun t => .next { t with cycle := t.cycle + 1 }.settle)) ∧
  (∀ (s : State) (i : Instr), s.stimulus = [] → decode (.in14 (Config.freeInput s.cycle)) = .ok i →
      step s = andThen (exec i s) (fun t => .next { t with cycle := t.cycle + 1 }.settle)) ∧
  (∀ (s : State) (rest : List ClockEvent), s.stimulus = .stopped :: rest →
      step s = .next { s with stimulus := rest }.settle)

/-- R70, R141: for a one-hot digit the combinational path is the selector row that the digit decodes to and then the
decoder row that the selected nibble decodes to, run one after the other. -/
def Obligations.SettlingRunsTheSelectedRows : Prop :=
  ∀ (s : State) (i : Instr), decode (.nibsel3 s.digit) = .ok i →
    ∃ t j, exec i s = .next t ∧ decode (.segdec4 t.nibble) = .ok j ∧ exec j t = .next s.settle

/-- R141: after every step the ports carry Out of the state: digit_select is the digit and, for a one-hot digit,
segments is DECODE(SELECT(digit, value)); so they depend on digit and value only, not on the count nor on the words to
come. They do so in the reset state too. -/
def Obligations.PortsCarryOut : Prop :=
  (∀ s : State, ∃ t, step s = .next t ∧ t.ports = t.out ∧ t.ports.digitSelect = t.digit ∧
    (∀ n : Nibble, select t.digit t.value = some n → t.nibble = n ∧ t.ports.segments = segmentPattern n)) ∧
  (∀ s t : State, s.digit = t.digit → s.value = t.value → Digit.oneHot s.digit = true → s.out = t.out) ∧
  State.reset.ports = State.reset.out

/-- R150: the block never halts, faults or waits: every state has a next state, and so a state after any number of
steps, whatever stimulus is listed. -/
def Obligations.TheBlockNeverStops : Prop :=
  ∀ (n : Nat) (s : State), ∃ t : State, Host.Core.run Sys2Proof.core n s = .next t

/-- R24, R25, R141: every step from a state with a one-hot digit, count <= R and settled outputs leads to such a state,
whatever the clock event and the input word. -/
def Obligations.InvariantIsKeptByEveryStep : Prop :=
  ∀ s t : State, s.Inv → step s = .next t → t.Inv

/-- R97: no step and no operation changes the threshold R. -/
def Obligations.ThresholdNeverChanges : Prop :=
  (∀ (i : Instr) (s : State), ∃ t, exec i s = .next t ∧ t.refreshCount = s.refreshCount) ∧
  ∀ (n : Nat) (s : State), ∃ t : State, Host.Core.run Sys2Proof.core n s = .next t ∧ t.refreshCount = s.refreshCount

/-- R171: while the clock is stopped a settled block keeps its whole state and its outputs; only the event is consumed.
That a stopped clock is an event of the stimulus, with a step of its own, is the model's choice (log 15). -/
def Obligations.StoppedClockKeepsTheState : Prop :=
  ∀ (s : State) (rest : List ClockEvent), s.Settled → s.stimulus = .stopped :: rest →
    step s = .next { s with stimulus := rest }

/-! ## The configuration write -/

/-- R51, R47, R185: a write sampled at an edge is visible in the next cycle: the whole word is in the value, and the
segments are those of a nibble of that word. -/
def Obligations.WriteShowsInTheNextCycle : Prop :=
  ∀ (s : State) (w : InputWord) (rest : List ClockEvent),
    s.stimulus = .edge w :: rest → InputWord.rst w = false → InputWord.wrEn w = true →
    Digit.oneHot s.digit = true →
      ∃ t n, step s = .next t ∧ t.value = w.extractLsb' 0 12 ∧
        select t.digit (w.extractLsb' 0 12) = some n ∧ t.ports.segments = segmentPattern n

/-- R48: a write of the value already held does what the same edge without the write does: the next states are equal in
every field. -/
def Obligations.WriteOfTheHeldValueIsATick : Prop :=
  ∀ (s : State) (rest : List ClockEvent) (x : Value),
    step { s with stimulus := .edge (inputWord false true s.value) :: rest } =
      step { s with stimulus := .edge (inputWord false false x) :: rest }

/-- R52: when writes are sampled at consecutive edges all are taken and the last one stays. -/
def Obligations.LastOfConsecutiveWritesStays : Prop :=
  ∀ (s : State) (ws : List InputWord) (w : InputWord) (rest : List ClockEvent),
    s.stimulus = edges (ws ++ [w]) ++ rest → (∀ x ∈ ws ++ [w], InputWord.rst x = false ∧ InputWord.wrEn x = true) →
      ∃ t : State, Host.Core.run Sys2Proof.core (ws.length + 1) s = .next t ∧ t.value = InputWord.wrData w

/-- R41, R44, R166: the value changes only by a configuration write or a reset: over any number of edges with neither,
it is as it was. -/
def Obligations.OnlyWritesAndResetChangeTheValue : Prop :=
  ∀ (s : State) (ws : List InputWord) (rest : List ClockEvent),
    s.stimulus = edges ws ++ rest → (∀ w ∈ ws, InputWord.rst w = false ∧ InputWord.wrEn w = false) →
      ∃ t : State, Host.Core.run Sys2Proof.core ws.length s = .next t ∧ t.value = s.value

/-- R96, R111, R166: the writer cannot move the timer or the scanner: two blocks that agree on R, count and digit, fed
any two sequences of words of one length without a reset, agree on count, advance and digit afterwards, whatever their
values and whatever was written. -/
def Obligations.WritesDoNotMoveTimerOrScanner : Prop :=
  ∀ (s t : State) (ws xs : List InputWord) (rs rt : List ClockEvent),
    s.stimulus = edges ws ++ rs → t.stimulus = edges xs ++ rt → ws.length = xs.length → NoReset ws → NoReset xs →
    s.refreshCount = t.refreshCount → s.count = t.count → s.digit = t.digit →
      ∃ s' t' : State, Host.Core.run Sys2Proof.core ws.length s = .next s' ∧
        Host.Core.run Sys2Proof.core xs.length t = .next t' ∧
        s'.count = t'.count ∧ s'.advance = t'.advance ∧ s'.digit = t'.digit

/-! ## Time -/

/-- R93, R94, R30: after n edges without a reset the count is (count + n) mod (R + 1), and advance is 1 exactly when that
is R; so the number of cycles since a reset or a rotation determines the count. -/
def Obligations.CountIsModuloThePeriod : Prop :=
  ∀ (s : State) (ws : List InputWord) (rest : List ClockEvent),
    s.stimulus = edges ws ++ rest → NoReset ws → s.count ≤ s.refreshCount →
      ∃ t : State, Host.Core.run Sys2Proof.core ws.length s = .next t ∧
        t.count = (s.count + ws.length) % (s.refreshCount + 1) ∧
        (t.advance = true ↔ (s.count + ws.length) % (s.refreshCount + 1) = s.refreshCount)

/-- R94, R110, R112: after n edges without a reset the digit has rotated once for each time the count has wrapped. -/
def Obligations.DigitRotatesOncePerPeriod : Prop :=
  ∀ (s : State) (ws : List InputWord) (rest : List ClockEvent),
    s.stimulus = edges ws ++ rest → NoReset ws → s.count ≤ s.refreshCount →
      ∃ t : State, Host.Core.run Sys2Proof.core ws.length s = .next t ∧
        t.digit = rotate^[(s.count + ws.length) / (s.refreshCount + 1)] s.digit

/-- R114: the scanner never stops while clocked: without a reset the next rotation comes after exactly R - count + 1
edges, and until then the digit holds. -/
def Obligations.NextRotationArrives : Prop :=
  ∀ (s : State) (ws : List InputWord) (rest : List ClockEvent),
    s.stimulus = edges ws ++ rest → NoReset ws → s.count ≤ s.refreshCount →
      (ws.length ≤ s.refreshCount - s.count →
        ∃ t : State, Host.Core.run Sys2Proof.core ws.length s = .next t ∧ t.digit = s.digit ∧
          t.count = s.count + ws.length) ∧
      (ws.length = s.refreshCount - s.count + 1 →
        ∃ t : State, Host.Core.run Sys2Proof.core ws.length s = .next t ∧ t.digit = rotate s.digit ∧ t.count = 0)

/-- R112: a frame is 3 (R + 1) edges: after that many without a reset, count and digit are as they were; one or two
periods do not bring a one-hot digit back. -/
def Obligations.FrameHasThreePeriods : Prop :=
  ∀ (s : State) (ws : List InputWord) (rest : List ClockEvent),
    s.stimulus = edges ws ++ rest → NoReset ws → s.count ≤ s.refreshCount →
      (ws.length = 3 * (s.refreshCount + 1) →
        ∃ t : State, Host.Core.run Sys2Proof.core ws.length s = .next t ∧ t.count = s.count ∧ t.digit = s.digit) ∧
      (Digit.oneHot s.digit = true →
        ws.length = s.refreshCount + 1 ∨ ws.length = 2 * (s.refreshCount + 1) →
        ∃ t : State, Host.Core.run Sys2Proof.core ws.length s = .next t ∧ t.count = s.count ∧ t.digit ≠ s.digit)

/-- R148, R132: from a reset state of any threshold, after n edges without a reset, whatever is written: digit line 0
with value[11:8] in the first R + 1 cycles of a frame, line 2 with value[3:0] in the next, line 1 with value[7:4] in the
last. -/
def Obligations.DisplayOrderFromReset : Prop :=
  ∀ (R : Nat) (ws : List InputWord), NoReset ws →
    ∃ t : State, Host.Core.run Sys2Proof.core ws.length { State.resetWith R with stimulus := edges ws } = .next t ∧
      (ws.length / (R + 1) % 3 = 0 → t.ports = ⟨0b001#3, segmentPattern (t.value.extractLsb' 8 4)⟩) ∧
      (ws.length / (R + 1) % 3 = 1 → t.ports = ⟨0b100#3, segmentPattern (t.value.extractLsb' 0 4)⟩) ∧
      (ws.length / (R + 1) % 3 = 2 → t.ports = ⟨0b010#3, segmentPattern (t.value.extractLsb' 4 4)⟩)

/-- R144, R146, R147: from a good state, without a reset, digit_select changes only at an edge that ends a cycle with
advance = 1, and there it shows the rotation only from the next cycle; in a cycle without advance the ports stay as they
are unless the edge carries a write that changes the selected nibble. -/
def Obligations.OutputsAreStableBetweenAdvances : Prop :=
  ∀ (s : State) (w : InputWord) (rest : List ClockEvent),
    s.Inv → s.stimulus = .edge w :: rest → InputWord.rst w = false →
      ∃ t, step s = .next t ∧ s.ports.digitSelect = s.digit ∧
        (s.advance = true → t.ports.digitSelect = rotate s.ports.digitSelect) ∧
        (s.advance = false → t.ports.digitSelect = s.ports.digitSelect) ∧
        (s.advance = false → InputWord.wrEn w = false → t.ports = s.ports) ∧
        (s.advance = false → select s.digit (InputWord.wrData w) = select s.digit s.value → t.ports = s.ports)

/-- R149: the end-to-end example: with value = 0xABC each digit shows its hexadecimal pattern. -/
def Obligations.EndToEndExample : Prop :=
  ∀ s : State, s.value = 0xABC#12 →
    (s.digit = 0b100#3 → s.settle.nibble = 0xC#4 ∧ s.settle.ports = ⟨0b100#3, 0b1000110#7⟩) ∧
    (s.digit = 0b010#3 → s.settle.nibble = 0xB#4 ∧ s.settle.ports = ⟨0b010#3, 0b0000011#7⟩) ∧
    (s.digit = 0b001#3 → s.settle.nibble = 0xA#4 ∧ s.settle.ports = ⟨0b001#3, 0b0001000#7⟩)
end

