-- ==== Sys2Proof/Laws/Decode.lean ====
section
/-! SUPPORT. The fields of a composed input word (R61). -/

namespace Sys2Proof

/-- Bit i of `{rst, wr_en, wr_data}` (R61). -/
theorem inputWord_getLsbD (r e : Bool) (v : Value) (i : Nat) :
    (inputWord r e v).getLsbD i
      = if i < 12 then v.getLsbD i else if i = 12 then e else if i = 13 then r else false := by
  simp only [inputWord, BitVec.getLsbD_cast, BitVec.getLsbD_append, BitVec.getLsbD_ofBool]
  rcases lt_trichotomy i 12 with h | rfl | h
  · simp [h]
  · simp
  · obtain rfl | h : i = 13 ∨ 13 < i := by omega
    · simp
    · simp [show ¬i < 12 by omega, show ¬i - 12 < 1 by omega, show i - 12 - 1 ≠ 0 by omega,
        show i ≠ 12 by omega, show i ≠ 13 by omega]

@[simp] theorem inputWord_rst (r e : Bool) (v : Value) : InputWord.rst (inputWord r e v) = r := by
  simp only [InputWord.rst, inputWord_getLsbD]
  rfl

@[simp] theorem inputWord_wrEn (r e : Bool) (v : Value) : InputWord.wrEn (inputWord r e v) = e := by
  simp only [InputWord.wrEn, inputWord_getLsbD]
  rfl

@[simp] theorem inputWord_wrData (r e : Bool) (v : Value) : InputWord.wrData (inputWord r e v) = v := by
  apply BitVec.eq_of_getLsbD_eq
  intro i hi
  simp only [InputWord.wrData, BitVec.getLsbD_extractLsb', inputWord_getLsbD]
  simp [hi]

theorem decodeIn14_inputWord (r e : Bool) (v : Value) :
    decodeIn14 (inputWord r e v) = if r then .reset else if e then .tickWr v else .tick := by
  simp [decodeIn14]

end Sys2Proof
end

