-- ==== Sys2Proof/Laws/State.lean ====
section
/-! SUPPORT. What each named operation leaves in each field of the state: one lemma per field per operation. -/

namespace Sys2Proof.Machine

@[simp] theorem State.clockTick_refreshCount (s : State) : (s.clockTick).refreshCount = s.refreshCount := rfl
@[simp] theorem State.clockTick_count (s : State) : (s.clockTick).count = s.countNext := rfl
@[simp] theorem State.clockTick_digit (s : State) : (s.clockTick).digit = s.digitNext := rfl
@[simp] theorem State.clockTick_value (s : State) : (s.clockTick).value = s.value := rfl
@[simp] theorem State.clockTick_nibble (s : State) : (s.clockTick).nibble = s.nibble := rfl
@[simp] theorem State.clockTick_segments (s : State) : (s.clockTick).segments = s.segments := rfl
@[simp] theorem State.clockTick_stimulus (s : State) : (s.clockTick).stimulus = s.stimulus := rfl
@[simp] theorem State.clockTick_cycle (s : State) : (s.clockTick).cycle = s.cycle := rfl

@[simp] theorem State.cfgWrite_refreshCount (s : State) (v : Value) : (s.cfgWrite v).refreshCount = s.refreshCount := rfl
@[simp] theorem State.cfgWrite_count (s : State) (v : Value) : (s.cfgWrite v).count = s.count := rfl
@[simp] theorem State.cfgWrite_digit (s : State) (v : Value) : (s.cfgWrite v).digit = s.digit := rfl
@[simp] theorem State.cfgWrite_value (s : State) (v : Value) : (s.cfgWrite v).value = v := rfl
@[simp] theorem State.cfgWrite_nibble (s : State) (v : Value) : (s.cfgWrite v).nibble = s.nibble := rfl
@[simp] theorem State.cfgWrite_segments (s : State) (v : Value) : (s.cfgWrite v).segments = s.segments := rfl
@[simp] theorem State.cfgWrite_stimulus (s : State) (v : Value) : (s.cfgWrite v).stimulus = s.stimulus := rfl
@[simp] theorem State.cfgWrite_cycle (s : State) (v : Value) : (s.cfgWrite v).cycle = s.cycle := rfl

@[simp] theorem State.resetRegisters_refreshCount (s : State) : (s.resetRegisters).refreshCount = s.refreshCount := rfl
@[simp] theorem State.resetRegisters_count (s : State) : (s.resetRegisters).count = 0 := rfl
@[simp] theorem State.resetRegisters_digit (s : State) : (s.resetRegisters).digit = 0b001#3 := rfl
@[simp] theorem State.resetRegisters_value (s : State) : (s.resetRegisters).value = 0x000#12 := rfl
@[simp] theorem State.resetRegisters_nibble (s : State) : (s.resetRegisters).nibble = s.nibble := rfl
@[simp] theorem State.resetRegisters_segments (s : State) : (s.resetRegisters).segments = s.segments := rfl
@[simp] theorem State.resetRegisters_stimulus (s : State) : (s.resetRegisters).stimulus = s.stimulus := rfl
@[simp] theorem State.resetRegisters_cycle (s : State) : (s.resetRegisters).cycle = s.cycle := rfl

@[simp] theorem State.driveNibble_refreshCount (s : State) (n : Nibble) : (s.driveNibble n).refreshCount = s.refreshCount := rfl
@[simp] theorem State.driveNibble_count (s : State) (n : Nibble) : (s.driveNibble n).count = s.count := rfl
@[simp] theorem State.driveNibble_digit (s : State) (n : Nibble) : (s.driveNibble n).digit = s.digit := rfl
@[simp] theorem State.driveNibble_value (s : State) (n : Nibble) : (s.driveNibble n).value = s.value := rfl
@[simp] theorem State.driveNibble_nibble (s : State) (n : Nibble) : (s.driveNibble n).nibble = n := rfl
@[simp] theorem State.driveNibble_segments (s : State) (n : Nibble) : (s.driveNibble n).segments = s.segments := rfl
@[simp] theorem State.driveNibble_stimulus (s : State) (n : Nibble) : (s.driveNibble n).stimulus = s.stimulus := rfl
@[simp] theorem State.driveNibble_cycle (s : State) (n : Nibble) : (s.driveNibble n).cycle = s.cycle := rfl

@[simp] theorem State.driveSegments_refreshCount (s : State) (p : Segments) : (s.driveSegments p).refreshCount = s.refreshCount := rfl
@[simp] theorem State.driveSegments_count (s : State) (p : Segments) : (s.driveSegments p).count = s.count := rfl
@[simp] theorem State.driveSegments_digit (s : State) (p : Segments) : (s.driveSegments p).digit = s.digit := rfl
@[simp] theorem State.driveSegments_value (s : State) (p : Segments) : (s.driveSegments p).value = s.value := rfl
@[simp] theorem State.driveSegments_nibble (s : State) (p : Segments) : (s.driveSegments p).nibble = s.nibble := rfl
@[simp] theorem State.driveSegments_segments (s : State) (p : Segments) : (s.driveSegments p).segments = p := rfl
@[simp] theorem State.driveSegments_stimulus (s : State) (p : Segments) : (s.driveSegments p).stimulus = s.stimulus := rfl
@[simp] theorem State.driveSegments_cycle (s : State) (p : Segments) : (s.driveSegments p).cycle = s.cycle := rfl

@[simp] theorem State.consume_refreshCount (s : State) : (s.consume).refreshCount = s.refreshCount := rfl
@[simp] theorem State.consume_count (s : State) : (s.consume).count = s.count := rfl
@[simp] theorem State.consume_digit (s : State) : (s.consume).digit = s.digit := rfl
@[simp] theorem State.consume_value (s : State) : (s.consume).value = s.value := rfl
@[simp] theorem State.consume_nibble (s : State) : (s.consume).nibble = s.nibble := rfl
@[simp] theorem State.consume_segments (s : State) : (s.consume).segments = s.segments := rfl
@[simp] theorem State.consume_stimulus (s : State) : (s.consume).stimulus = s.stimulus.tail := rfl
@[simp] theorem State.consume_cycle (s : State) : (s.consume).cycle = s.cycle := rfl

@[simp] theorem State.endCycle_refreshCount (s : State) : (s.endCycle).refreshCount = s.refreshCount := rfl
@[simp] theorem State.endCycle_count (s : State) : (s.endCycle).count = s.count := rfl
@[simp] theorem State.endCycle_digit (s : State) : (s.endCycle).digit = s.digit := rfl
@[simp] theorem State.endCycle_value (s : State) : (s.endCycle).value = s.value := rfl
@[simp] theorem State.endCycle_nibble (s : State) : (s.endCycle).nibble = s.nibble := rfl
@[simp] theorem State.endCycle_segments (s : State) : (s.endCycle).segments = s.segments := rfl
@[simp] theorem State.endCycle_stimulus (s : State) : (s.endCycle).stimulus = s.stimulus := rfl
@[simp] theorem State.endCycle_cycle (s : State) : (s.endCycle).cycle = s.cycle + 1 := rfl

@[simp] theorem State.resetWith_refreshCount (R : Nat) : (State.resetWith R).refreshCount = R := rfl
@[simp] theorem State.resetWith_count (R : Nat) : (State.resetWith R).count = 0 := rfl
@[simp] theorem State.resetWith_digit (R : Nat) : (State.resetWith R).digit = 0b001#3 := rfl
@[simp] theorem State.resetWith_value (R : Nat) : (State.resetWith R).value = 0x000#12 := rfl
@[simp] theorem State.resetWith_nibble (R : Nat) : (State.resetWith R).nibble = 0x0#4 := rfl
@[simp] theorem State.resetWith_segments (R : Nat) : (State.resetWith R).segments = 0b1000000#7 := rfl
@[simp] theorem State.resetWith_stimulus (R : Nat) : (State.resetWith R).stimulus = [] := rfl
@[simp] theorem State.resetWith_cycle (R : Nat) : (State.resetWith R).cycle = 0 := rfl

@[simp] theorem State.settle_refreshCount (s : State) : s.settle.refreshCount = s.refreshCount := rfl
@[simp] theorem State.settle_count (s : State) : s.settle.count = s.count := rfl
@[simp] theorem State.settle_digit (s : State) : s.settle.digit = s.digit := rfl
@[simp] theorem State.settle_value (s : State) : s.settle.value = s.value := rfl
@[simp] theorem State.settle_nibble (s : State) : s.settle.nibble = s.selectedNibble := rfl
@[simp] theorem State.settle_segments (s : State) : s.settle.segments = segmentPattern s.selectedNibble := rfl
@[simp] theorem State.settle_stimulus (s : State) : s.settle.stimulus = s.stimulus := rfl
@[simp] theorem State.settle_cycle (s : State) : s.settle.cycle = s.cycle := rfl
@[simp] theorem State.settle_selectedNibble (s : State) : s.settle.selectedNibble = s.selectedNibble := rfl

/-- The selected nibble depends on the digit, the value and the index of the cycle alone (R130, R131). -/
theorem State.selectedNibble_congr {s t : State} (hd : s.digit = t.digit) (hv : s.value = t.value)
    (hc : s.cycle = t.cycle) : s.selectedNibble = t.selectedNibble := by
  simp only [State.selectedNibble, hd, hv, hc]

@[simp] theorem State.driveNibble_selectedNibble (s : State) (n : Nibble) :
    (s.driveNibble n).selectedNibble = s.selectedNibble := rfl

@[simp] theorem State.driveSegments_selectedNibble (s : State) (p : Segments) :
    (s.driveSegments p).selectedNibble = s.selectedNibble := rfl

@[simp] theorem State.consume_selectedNibble (s : State) : s.consume.selectedNibble = s.selectedNibble := rfl

end Sys2Proof.Machine
end

