-- ==== Sys2Proof/Laws/Ops.lean ====
section
/-! SUPPORT. What each shared operation can do, said once. -/

namespace Sys2Proof.Machine

@[simp] theorem andThen_next (s : State) (f : State → Host.Outcome State Fault Refusal) :
    andThen (.next s) f = f s := rfl

theorem State.advance_iff (s : State) : s.advance = true ↔ s.count = s.refreshCount := by
  simp [State.advance]

/-- The count wraps at R and otherwise grows by one (R93). -/
theorem State.countNext_eq (s : State) :
    s.countNext = if s.count = s.refreshCount then 0 else s.count + 1 := by
  simp [State.countNext, State.advance_iff]

/-- The digit rotates in a cycle with count = R and otherwise holds (R110, R111). -/
theorem State.digitNext_eq (s : State) :
    s.digitNext = if s.count = s.refreshCount then rotate s.digit else s.digit := by
  simp [State.digitNext, State.advance_iff]

@[simp] theorem State.consume_countNext (s : State) : s.consume.countNext = s.countNext := rfl

@[simp] theorem State.consume_digitNext (s : State) : s.consume.digitNext = s.digitNext := rfl

theorem State.countNext_le (s : State) (h : s.count ≤ s.refreshCount) : s.countNext ≤ s.refreshCount := by
  rw [State.countNext_eq]
  split <;> omega

/-- The permutation of R110 is a rotation right by one bit. -/
theorem rotate_eq_rotateRight : ∀ d : Digit, rotate d = d.rotateRight 1 := by decide

theorem rotate_oneHot : ∀ d : Digit, Digit.oneHot (rotate d) = Digit.oneHot d := by decide

theorem rotate_three_times : ∀ d : Digit, rotate (rotate (rotate d)) = d := by decide

theorem State.digitNext_oneHot (s : State) : Digit.oneHot s.digitNext = Digit.oneHot s.digit := by
  rw [State.digitNext_eq]
  split
  · exact rotate_oneHot s.digit
  · rfl

/-- SELECT has a result exactly for a one-hot digit (R130, R131). -/
theorem select_isSome (d : Digit) (v : Value) : (select d v).isSome = Digit.oneHot d := by
  unfold select Digit.oneHot
  split_ifs <;> simp_all

/-- On a one-hot digit the selected nibble is no free draw (R130). -/
theorem State.selectedNibble_of_oneHot (s : State) (h : Digit.oneHot s.digit = true) :
    some s.selectedNibble = select s.digit s.value := by
  obtain ⟨n, hn⟩ := Option.isSome_iff_exists.mp ((select_isSome s.digit s.value).trans h)
  simp [State.selectedNibble, hn]

/-- In the reset state the selected nibble is `value[11:8]`, which is 0 (R182). -/
@[simp] theorem State.resetWith_selectedNibble (R : Nat) : (State.resetWith R).selectedNibble = 0x0#4 := by
  simp [State.selectedNibble, select, nibble2]

theorem State.nextEvent_cons {s : State} {e : ClockEvent} {rest : List ClockEvent} (h : s.stimulus = e :: rest) :
    s.nextEvent = e := by
  simp [State.nextEvent, h]

theorem State.nextEvent_nil {s : State} (h : s.stimulus = []) :
    s.nextEvent = .edge (Config.freeInput s.cycle) := by
  simp [State.nextEvent, h]

/-- Construction succeeds exactly for the well-formed clock periods (R161). -/
theorem construct_eq (p : ClockPeriod) :
    (p.wf = true → ∃ ns, p = .finite ns ∧ construct p = .next (State.resetWith (Config.refreshCountOf ns))) ∧
      (p.wf = false → construct p = .refused (.constructionError p)) := by
  cases p with
  | finite ns => by_cases h : 0 < ns <;> simp [ClockPeriod.wf, construct, h]
  | nan => simp [ClockPeriod.wf, construct]
  | posInf => simp [ClockPeriod.wf, construct]
  | negInf => simp [ClockPeriod.wf, construct]

end Sys2Proof.Machine
end

