-- ==== Sys2Proof/Laws/Edge.lean ====
section
/-! SUPPORT. What the rows of the combinational path and an edge's operation can do, said once. -/

namespace Sys2Proof.Machine

/-- Running the row that a nibble selects drives that nibble's pattern (R80). -/
theorem exec_decodeSegdec4 (n : Nibble) (s : State) :
    exec (decodeSegdec4 n) s = .next (s.driveSegments (segmentPattern n)) := by
  obtain ⟨⟨k, hk⟩⟩ := n
  have : k < 16 := hk
  interval_cases k <;> rfl

/-- Running the row that a digit selects drives the selected nibble (R130). -/
theorem exec_of_decodeNibsel3 {s : State} {i : Instr} (h : decodeNibsel3 s.digit = .ok i) :
    exec i s = .next (s.driveNibble s.selectedNibble) := by
  unfold decodeNibsel3 at h
  unfold State.selectedNibble select
  split_ifs at h with h1 h2 h3 <;> cases h
  · simp [h1, exec, execSelect001]
  · simp [h2, exec, execSelect010]
  · simp [h3, exec, execSelect100]

/-- The registers after the edge that samples `w` (R142). -/
def State.afterEdge (s : State) (w : InputWord) : State :=
  if InputWord.rst w then s.resetRegisters
  else if InputWord.wrEn w then s.clockTick.cfgWrite (InputWord.wrData w)
  else s.clockTick

/-- The operation of an edge never stops (R150). -/
theorem exec_decodeIn14 (w : InputWord) (s : State) : exec (decodeIn14 w) s = .next (s.afterEdge w) := by
  unfold decodeIn14 State.afterEdge
  split_ifs <;> rfl

theorem runEdge_eq (w : InputWord) (s : State) : runEdge w s = .next (s.afterEdge w).endCycle.settle := by
  simp [runEdge, exec_decodeIn14]

@[simp] theorem State.afterEdge_refreshCount (s : State) (w : InputWord) :
    (s.afterEdge w).refreshCount = s.refreshCount := by
  unfold State.afterEdge; split_ifs <;> rfl

@[simp] theorem State.afterEdge_stimulus (s : State) (w : InputWord) : (s.afterEdge w).stimulus = s.stimulus := by
  unfold State.afterEdge; split_ifs <;> rfl

@[simp] theorem State.afterEdge_cycle (s : State) (w : InputWord) : (s.afterEdge w).cycle = s.cycle := by
  unfold State.afterEdge; split_ifs <;> rfl

theorem State.afterEdge_of_rst {s : State} {w : InputWord} (h : InputWord.rst w = true) :
    s.afterEdge w = s.resetRegisters := by
  simp [State.afterEdge, h]

theorem State.afterEdge_count {s : State} {w : InputWord} (h : InputWord.rst w = false) :
    (s.afterEdge w).count = s.countNext := by
  unfold State.afterEdge; split_ifs <;> simp_all

theorem State.afterEdge_digit {s : State} {w : InputWord} (h : InputWord.rst w = false) :
    (s.afterEdge w).digit = s.digitNext := by
  unfold State.afterEdge; split_ifs <;> simp_all

theorem State.afterEdge_value {s : State} {w : InputWord} (h : InputWord.rst w = false) :
    (s.afterEdge w).value = if InputWord.wrEn w then InputWord.wrData w else s.value := by
  unfold State.afterEdge; split_ifs <;> simp_all

end Sys2Proof.Machine
end

