-- ==== Sys2Proof/Laws/PerInstr.lean ====
section
/-! SUPPORT. Statements made per instruction: the encoding of each operation matches its own row of the opcode table. -/

namespace Sys2Proof.Laws.EncodingMatchesRow

/-- The word the encoder gives has the row's format, and its bits under the row's mask are the row's match. -/
abbrev Statement (i : Instr) : Prop := i.row.Matches (encode i)

theorem reset : Statement .reset := by decide

theorem tick : Statement .tick := by decide

/-- The two top bits of a word, `rst` and `wr_en`, are the bits under the masks of TICK and TICK_WR. -/
theorem mask_getLsbD : ∀ i : Fin 14, (0x3000#14).getLsbD i = decide (12 ≤ i.val) := by decide

theorem pattern_getLsbD : ∀ i : Fin 14, (0x1000#14).getLsbD i = decide (i.val = 12) := by decide

theorem tickWr (wrData : Value) : Statement (.tickWr wrData) := by
  refine ⟨rfl, ?_⟩
  have masked : inputWord false true wrData &&& 0x3000#14 = 0x1000#14 := by
    apply BitVec.eq_of_getLsbD_eq
    intro i hi
    rw [BitVec.getLsbD_and, inputWord_getLsbD, mask_getLsbD ⟨i, hi⟩, pattern_getLsbD ⟨i, hi⟩]
    rcases lt_trichotomy i 12 with h | rfl | h
    · simp [h, Nat.ne_of_lt h]
    · rfl
    · obtain rfl : i = 13 := by omega
      rfl
  simpa [Code.bits, encode, Instr.row] using congrArg BitVec.toNat masked

theorem decode0 : Statement .decode0 := by decide

theorem decode1 : Statement .decode1 := by decide

theorem decode2 : Statement .decode2 := by decide

theorem decode3 : Statement .decode3 := by decide

theorem decode4 : Statement .decode4 := by decide

theorem decode5 : Statement .decode5 := by decide

theorem decode6 : Statement .decode6 := by decide

theorem decode7 : Statement .decode7 := by decide

theorem decode8 : Statement .decode8 := by decide

theorem decode9 : Statement .decode9 := by decide

theorem decodeA : Statement .decodeA := by decide

theorem decodeB : Statement .decodeB := by decide

theorem decodeC : Statement .decodeC := by decide

theorem decodeD : Statement .decodeD := by decide

theorem decodeE : Statement .decodeE := by decide

theorem decodeF : Statement .decodeF := by decide

theorem select001 : Statement .select001 := by decide

theorem select010 : Statement .select010 := by decide

theorem select100 : Statement .select100 := by decide

end Sys2Proof.Laws.EncodingMatchesRow
end

