-- ==== Sys2Proof/Tests/Slice0.lean ====
section
/-! SUPPORT. The model's own tests. Expected values are those of spec/95_test_vectors.md (E, V) and of the worked
examples of the rules; words are written out from spec/30_encoding.md R61, R62 and R69. Then one witness for the
hypotheses of each statement that has some. -/

namespace Sys2Proof.Tests

open Sys2Proof.Machine

/-- A settled state with these registers and these words at the next edges. -/
def at_ (R count : Nat) (digit : Digit) (value : Value) (words : List InputWord) : State :=
  { State.resetWith R with
    count := count
    digit := digit
    value := value
    nibble := (select digit value).getD 0
    segments := segmentPattern ((select digit value).getD 0)
    stimulus := edges words }

/-- The three registers after an outcome. -/
def regs : Host.Outcome State Fault Refusal → Option (Nat × Digit × Value)
  | .next s => some (s.count, s.digit, s.value)
  | .fault _ => none
  | .refused _ => none

/-- The ports after an outcome. -/
def ports : Host.Outcome State Fault Refusal → Option (Digit × Segments)
  | .next s => some (s.digit, s.segments)
  | .fault _ => none
  | .refused _ => none

/-- The nibble after an outcome. -/
def nibble : Host.Outcome State Fault Refusal → Option Nibble
  | .next s => some s.nibble
  | .fault _ => none
  | .refused _ => none

/-- The threshold of a constructed block. -/
def threshold : Host.Outcome State Fault Refusal → Option Nat
  | .next s => some s.refreshCount
  | .fault _ => none
  | .refused _ => none

/-- `NoReset` of a list of literals, by evaluation. -/
theorem noReset_of_all {ws : List InputWord} (h : ws.all (fun w => !InputWord.rst w) = true) : NoReset ws := by
  intro w hw
  simpa using List.all_eq_true.mp h w hw

/-! ## Well-formedness -/

/-- R67: the five reserved digit codes are ill-formed words. -/
theorem test_wf_refuses_reserved_digits :
    ∀ d ∈ [0b000#3, 0b011#3, 0b101#3, 0b110#3, 0b111#3], (Code.nibsel3 d).wf = false := by decide

/-- R6, R161, V2: the clock periods that construction refuses. -/
theorem test_wf_refuses_bad_periods :
    (ClockPeriod.finite 0).wf = false ∧ (ClockPeriod.finite (-10)).wf = false ∧ ClockPeriod.nan.wf = false ∧
      ClockPeriod.posInf.wf = false ∧ ClockPeriod.negInf.wf = false := by decide

/-- R23: the largest operand of TICK_WR is legal. -/
theorem test_wf_accepts_largest_operand : (Instr.tickWr 0xFFF#12).wf = true := by decide

/-! ## Decoding, by words written out from the spec -/

/-- R62, R69: RESET, also with a write at the same edge. -/
theorem test_decode_reset :
    decode (.in14 0b10000000000000#14) = .ok .reset ∧ decode (.in14 0b11011101110111#14) = .ok .reset := by decide

/-- R62: TICK, with wr_data ignored. -/
theorem test_decode_tick :
    decode (.in14 0b00000000000000#14) = .ok .tick ∧ decode (.in14 0b00111111111111#14) = .ok .tick := by decide

/-- R62, P1: `WR ABC` is 0x1ABC. -/
theorem test_decode_tick_wr : decode (.in14 0b01101010111100#14) = .ok (.tickWr 0xABC#12) := by decide

/-- R80: the sixteen SEGDEC4 words. -/
theorem test_decode_segdec4 :
    [0b0000#4, 0b0001#4, 0b0010#4, 0b0011#4, 0b0100#4, 0b0101#4, 0b0110#4, 0b0111#4, 0b1000#4, 0b1001#4, 0b1010#4,
      0b1011#4, 0b1100#4, 0b1101#4, 0b1110#4, 0b1111#4].map decodeSegdec4 =
      [.decode0, .decode1, .decode2, .decode3, .decode4, .decode5, .decode6, .decode7, .decode8, .decode9, .decodeA,
        .decodeB, .decodeC, .decodeD, .decodeE, .decodeF] := by decide

/-- R130: the three NIBSEL3 words. -/
theorem test_decode_nibsel3 :
    decode (.nibsel3 0b001#3) = .ok .select001 ∧ decode (.nibsel3 0b010#3) = .ok .select010 ∧
      decode (.nibsel3 0b100#3) = .ok .select100 := by decide

/-- R67: a reserved digit is refused by name. -/
theorem test_decode_reserved_digit : decode (.nibsel3 0b011#3) = .error (.reservedDigit 0b011#3) := by decide

/-- R61, R67, R70: table words by their number of bits, and words too large for their format. -/
theorem test_decode_table_words :
    decodeTableWord 16 0x2000 = some .reset ∧ decodeTableWord 16 0x1ABC = some (.tickWr 0xABC#12) ∧
      decodeTableWord 8 0xB = some .decodeB ∧ decodeTableWord 3 0b100 = some .select100 ∧
      decodeTableWord 3 0b110 = none ∧ decodeTableWord 8 16 = none ∧ decodeTableWord 16 0x4000 = none := by decide

/-! ## Construction (V2) -/

/-- V2: 3 ns gives 666666, truncated; 0.1 ns gives 20000000; 10000 ns gives 200, not 199 (conflict C2). -/
theorem test_threshold_values :
    threshold (construct (.finite 3)) = some 666666 ∧ threshold (construct (.finite (1 / 10))) = some 20000000 ∧
      threshold (construct (.finite 10000)) = some 200 := by decide +kernel

/-- V2: the boundary between R = 1 and R = 0. -/
theorem test_threshold_boundary :
    threshold (construct (.finite 2000000)) = some 1 ∧ threshold (construct (.finite 2000001)) = some 0 := by decide +kernel

/-- R9, V2: R = 2000000000 needs 31 bits; R = 0 has one. -/
theorem test_counter_width : Config.counterWidth 2000000000 = 31 ∧ Config.counterWidth 0 = 1 := by decide

/-! ## Single steps (V5) -/

/-- V5: TICK without and with an advance. -/
theorem test_tick_counts_and_rotates :
    regs (step (at_ 1 0 0b001#3 0x000#12 [0x0000#14])) = some (1, 0b001#3, 0x000#12) ∧
      regs (step (at_ 1 1 0b001#3 0xABC#12 [0x0000#14])) = some (0, 0b100#3, 0xABC#12) ∧
      regs (step (at_ 200 199 0b001#3 0x000#12 [0x0000#14])) = some (200, 0b001#3, 0x000#12) := by decide

/-- V5: R = 0 rotates at every TICK; TICK ignores wr_data. -/
theorem test_tick_corners :
    regs (step (at_ 0 0 0b001#3 0x000#12 [0x0000#14])) = some (0, 0b100#3, 0x000#12) ∧
      regs (step (at_ 5 3 0b100#3 0x5A3#12 [0x0FFF#14])) = some (4, 0b100#3, 0x5A3#12) := by decide

/-- V5: TICK_WR without an advance, with one, and with R = 0. -/
theorem test_tick_wr_steps :
    regs (step (at_ 1 0 0b001#3 0x000#12 [0x1ABC#14])) = some (1, 0b001#3, 0xABC#12) ∧
      regs (step (at_ 1 1 0b100#3 0xABC#12 [0x1123#14])) = some (0, 0b010#3, 0x123#12) ∧
      regs (step (at_ 0 0 0b010#3 0x456#12 [0x1FFF#14])) = some (0, 0b001#3, 0xFFF#12) := by decide

/-- P2, cycles 2 to 3: the new digit shows its nibble of the new value. -/
theorem test_tick_wr_ports :
    ports (step (at_ 0 0 0b010#3 0x123#12 [0x1456#14])) = some (0b001#3, 0b0011001#7) := by decide

/-- V5: RESET in an advance cycle, and RESET with a write. -/
theorem test_reset_steps :
    regs (step (at_ 2 2 0b010#3 0x123#12 [0x2000#14])) = some (0, 0b001#3, 0x000#12) ∧
      regs (step (at_ 2 1 0b010#3 0x123#12 [0x3777#14])) = some (0, 0b001#3, 0x000#12) := by decide

/-- P3, cycle 5: the ports after a reset. -/
theorem test_reset_ports :
    ports (step (at_ 2 1 0b100#3 0x9F0#12 [0x3777#14])) = some (0b001#3, 0b1000000#7) := by decide

/-- V4: ROTATE on every 3-bit digit. -/
theorem test_rotate_all_digits :
    [0b000#3, 0b001#3, 0b010#3, 0b011#3, 0b100#3, 0b101#3, 0b110#3, 0b111#3].map rotate =
      [0b000#3, 0b100#3, 0b001#3, 0b101#3, 0b010#3, 0b110#3, 0b011#3, 0b111#3] := by decide

/-- V3: value 0x5A3 selects 0x5, 0xA and 0x3. -/
theorem test_select_rows :
    nibble (exec .select001 (at_ 1 0 0b001#3 0x5A3#12 [])) = some 0x5#4 ∧
      nibble (exec .select010 (at_ 1 0 0b010#3 0x5A3#12 [])) = some 0xA#4 ∧
      nibble (exec .select100 (at_ 1 0 0b100#3 0x5A3#12 [])) = some 0x3#4 := by decide

/-- E7: the end-to-end example 0xABC, with a stopped clock. -/
theorem test_end_to_end :
    [0b100#3, 0b010#3, 0b001#3].map (fun d => ports (step { at_ 1 0 d 0xABC#12 [] with stimulus := [.stopped] })) =
      [some (0b100#3, 0b1000110#7), some (0b010#3, 0b0000011#7), some (0b001#3, 0b0001000#7)] := by decide

/-- The pattern at the port after the row of a nibble runs as the first row after reset. -/
def firstPattern (n : Nat) : Option Segments := (ports (step (State.reset.withFetchWord 8 n))).map Prod.snd

/-- E1: the first eight rows of the decoder table, each run as the first row after reset. -/
theorem test_decoder_rows_0_to_7 :
    [0, 1, 2, 3, 4, 5, 6, 7].map firstPattern =
      [some 0b1000000#7, some 0b1111001#7, some 0b0100100#7, some 0b0110000#7, some 0b0011001#7, some 0b0010010#7,
        some 0b0000010#7, some 0b1111000#7] := by decide

/-- E1: the other eight rows. -/
theorem test_decoder_rows_8_to_F :
    [8, 9, 10, 11, 12, 13, 14, 15].map firstPattern =
      [some 0b0000000#7, some 0b0010000#7, some 0b0001000#7, some 0b0000011#7, some 0b1000110#7, some 0b0100001#7,
        some 0b0000110#7, some 0b0001110#7] := by decide

/-- A SELECT row run as the first row after reset: digit 0b100 of a state that holds 0xABC. -/
theorem test_selector_row_placed :
    nibble (step ((at_ 1 0 0b001#3 0xABC#12 []).withFetchWord 3 0b100)) = some 0xC#4 := by decide

/-- An input word run as the first operation after reset, whatever the threshold: the value it writes. -/
theorem test_input_word_placed :
    (regs (step (State.reset.withFetchWord 16 0x1ABC))).map (fun r => r.2.2) = some 0xABC#12 := by decide

/-- R69, P3: the lines `RESET WR 777`, `WR 777` and `TICK*3` as words. -/
theorem test_stimulus_lines :
    (Line.resetWr 0x777#12).words = [0x3777#14] ∧ (Line.wr 0x777#12).words = [0x1777#14] ∧
      (Line.ticks 3).words = [0x0000#14, 0x0000#14, 0x0000#14] := by decide

/-- R69: a loaded program is its words, one per edge. -/
theorem test_load_program :
    (State.reset.load [.wr 0x123#12, .ticks 2, .reset]).stimulus =
      [.edge 0x1123#14, .edge 0x0000#14, .edge 0x0000#14, .edge 0x2000#14] := by decide

/-- R22: the digit indices. -/
theorem test_digit_index : [0b001#3, 0b010#3, 0b100#3, 0b011#3].map digitIndex = [some 0, some 1, some 2, none] := by
  decide

/-! ## Witnesses: states and operands that meet the hypotheses of each statement -/

theorem witness_DecodeOfEncodeIsTheInstruction : (Instr.tickWr 0xFFF#12).wf = true := by decide

theorem witness_DecodedWordMatchesItsRow :
    decode (.in14 0x1FFF#14) = .ok (.tickWr 0xFFF#12) ∧ decode (.segdec4 0xF#4) = .ok .decodeF := by decide

theorem witness_MatchingWordDecodesToItsRow :
    Instr.tick.row.Matches (.in14 0x0FFF#14) ∧ Instr.reset.row.Matches (.in14 0x3FFF#14) := by decide

theorem witness_OnlyReservedDigitsAreRefused : decode (.nibsel3 0b111#3) = .error (.reservedDigit 0b111#3) := by decide

theorem witness_ConstructionRefusesBadPeriods : (0 : Rat) < 1 / 10 ∧ (0 : Rat) ≤ 0 ∧ (-10 : Rat) ≤ 0 := by norm_num

theorem witness_ThresholdIsFloorOfQuotient : (0 : Rat) < 3 := by norm_num

theorem witness_ThresholdZeroAdvancesEveryCycle :
    (0 : Rat) < 2000001 ∧ (at_ 0 0 0b001#3 0 [0x1FFF#14]).refreshCount = 0 ∧
      (at_ 0 0 0b001#3 0 [0x1FFF#14]).count ≤ (at_ 0 0 0b001#3 0 [0x1FFF#14]).refreshCount ∧
      (at_ 0 0 0b001#3 0 [0x1FFF#14]).stimulus = .edge 0x1FFF#14 :: [] ∧ InputWord.rst 0x1FFF#14 = false := by decide

theorem witness_CounterWidthSuffices :
    (at_ 7 7 0b001#3 0 []).count ≤ (at_ 7 7 0b001#3 0 []).refreshCount ∧ 1 ≤ 3 ∧
      (at_ 7 7 0b001#3 0 []).refreshCount < 2 ^ 3 := by decide

theorem witness_ResetWinsOverEverything :
    (at_ 2 2 0b010#3 0x123#12 [0x3777#14, 0x2000#14]).stimulus = .edge 0x3777#14 :: .edge 0x2000#14 :: [] ∧
      InputWord.rst 0x3777#14 = true ∧ InputWord.rst 0x2000#14 = true := by decide

theorem witness_TickWrResult :
    (at_ 1 1 0b001#3 0xABC#12 [inputWord false true 0xABC#12]).stimulus
        = .edge (inputWord false true 0xABC#12) :: [] ∧
      0xABC#12 = (at_ 1 1 0b001#3 0xABC#12 []).value ∧ select 0b100#3 0xABC#12 = some 0xC#4 := by decide

theorem witness_EdgeOperationsFrame :
    Instr.reset.row.format = .in14 ∧ Instr.tick.row.format = .in14 ∧ (Instr.tickWr 0#12).row.format = .in14 := by
  decide

theorem witness_StepIsThePerEdgeUpdate :
    (at_ 3 3 0b010#3 0 [0x3FFF#14]).stimulus = .edge 0x3FFF#14 :: [] := by decide

theorem witness_AdvanceIsCountEqualsThreshold :
    (at_ 0 0 0b001#3 0 []).refreshCount = 0 ∧ (at_ 0 0 0b001#3 0 []).count ≤ (at_ 0 0 0b001#3 0 []).refreshCount ∧
      (at_ 2 2 0b001#3 0 []).refreshCount = 2 ∧ (at_ 2 2 0b001#3 0 []).count = 2 ∧
      (at_ 2 1 0b001#3 0 []).refreshCount = 2 ∧ (at_ 2 1 0b001#3 0 []).count = 1 := by decide

theorem witness_AdvanceRotatesTheDigit :
    (at_ 2 2 0b100#3 0 [0x1FFF#14]).stimulus = .edge 0x1FFF#14 :: [] ∧ InputWord.rst 0x1FFF#14 = false ∧
      (at_ 2 2 0b100#3 0 [0x1FFF#14]).advance = true := by decide

theorem witness_NoAdvanceHoldsTheDigit :
    (at_ 2 1 0b001#3 0 [0x1FFF#14]).stimulus = .edge 0x1FFF#14 :: [] ∧ InputWord.rst 0x1FFF#14 = false ∧
      (at_ 2 1 0b001#3 0 [0x1FFF#14]).advance = false := by decide

theorem witness_RotationStepsTheIndices :
    digitIndex 0b001#3 = some 0 ∧ digitIndex 0b010#3 = some 1 ∧ digitIndex 0b100#3 = some 2 := by decide

theorem witness_SelectorDrivesTheSelectedNibble :
    (0xA12#12).extractLsb' 8 4 = (0xA34#12).extractLsb' 8 4 ∧ (0x1B2#12).extractLsb' 4 4 = (0x3B4#12).extractLsb' 4 4 ∧
      (0x12C#12).extractLsb' 0 4 = (0x34C#12).extractLsb' 0 4 := by decide

theorem witness_NonOneHotDigitGoesOn :
    Digit.oneHot (at_ 1 0 0b011#3 0 [0x0000#14]).digit = false ∧
      (at_ 1 0 0b011#3 0 [0x0000#14]).stimulus = .edge 0x0000#14 :: [] ∧ InputWord.rst 0x0000#14 = false := by decide

theorem witness_SegmentsDetermineTheNibble :
    ports (step (at_ 1 0 0b001#3 0xA00#12 [0x0000#14])) = ports (step (at_ 5 0 0b001#3 0xA12#12 [0x0000#14])) := by
  decide

theorem witness_CombinationalRowsFrame :
    Instr.decode0.row.format ≠ .in14 ∧ Instr.decode0.row.format = .segdec4 ∧ Instr.select100.row.format ≠ .in14 ∧
      Instr.select100.row.format = .nibsel3 := by decide

theorem witness_StepRunsTheDecodedOperation :
    (at_ 1 0 0b001#3 0 [0x3FFF#14]).stimulus = .edge 0x3FFF#14 :: [] ∧ decode (.in14 0x3FFF#14) = .ok .reset ∧
      { State.resetWith 1 with stimulus := [.stopped] }.stimulus = .stopped :: [] := by decide

theorem witness_StepRunsTheDecodedOperation_free_input :
    (State.resetWith 1).stimulus = [] ∧
      ∃ i, decode (.in14 (Config.freeInput (State.resetWith 1).cycle)) = .ok i :=
  ⟨rfl, _, rfl⟩

theorem witness_SettlingRunsTheSelectedRows :
    decode (.nibsel3 (at_ 1 0 0b010#3 0x456#12 []).digit) = .ok .select010 := by decide

theorem witness_PortsCarryOut :
    select 0b001#3 0x800#12 = some 0x8#4 ∧ (at_ 1 0 0b100#3 0x5A3#12 []).digit = (at_ 9 7 0b100#3 0x5A3#12 []).digit ∧
      (at_ 1 0 0b100#3 0x5A3#12 []).value = (at_ 9 7 0b100#3 0x5A3#12 []).value ∧
      Digit.oneHot (at_ 1 0 0b100#3 0x5A3#12 []).digit = true := by decide

theorem witness_InvariantIsKeptByEveryStep :
    (at_ 1 1 0b010#3 0xABC#12 [0x0000#14]).Inv ∧
      (regs (step (at_ 1 1 0b010#3 0xABC#12 [0x0000#14]))).isSome = true := by decide

theorem witness_StoppedClockKeepsTheState :
    { at_ 1 1 0b010#3 0xABC#12 [] with stimulus := [.stopped] }.Settled ∧
      { at_ 1 1 0b010#3 0xABC#12 [] with stimulus := [.stopped] }.stimulus = .stopped :: [] := by decide

theorem witness_WriteShowsInTheNextCycle :
    (at_ 3 2 0b001#3 0x800#12 [0x1300#14]).stimulus = .edge 0x1300#14 :: [] ∧ InputWord.rst 0x1300#14 = false ∧
      InputWord.wrEn 0x1300#14 = true ∧ Digit.oneHot (at_ 3 2 0b001#3 0x800#12 [0x1300#14]).digit = true := by decide

theorem witness_LastOfConsecutiveWritesStays :
    (at_ 1 0 0b001#3 0 ([0x1123#14] ++ [0x1456#14])).stimulus = edges ([0x1123#14] ++ [0x1456#14]) ++ [] ∧
      ∀ x ∈ [0x1123#14] ++ [0x1456#14], InputWord.rst x = false ∧ InputWord.wrEn x = true :=
  ⟨rfl, by simp [InputWord.rst, InputWord.wrEn]⟩

theorem witness_OnlyWritesAndResetChangeTheValue :
    (at_ 1 0 0b001#3 0x123#12 [0x0000#14, 0x0FFF#14]).stimulus = edges [0x0000#14, 0x0FFF#14] ++ [] ∧
      ∀ w ∈ [0x0000#14, 0x0FFF#14], InputWord.rst w = false ∧ InputWord.wrEn w = false :=
  ⟨rfl, by simp [InputWord.rst, InputWord.wrEn]⟩

theorem witness_WritesDoNotMoveTimerOrScanner :
    (at_ 1 1 0b001#3 0x000#12 [0x1FFF#14]).stimulus = edges [0x1FFF#14] ++ [] ∧
      (at_ 1 1 0b001#3 0xABC#12 [0x0000#14]).stimulus = edges [0x0000#14] ++ [] ∧
      [0x1FFF#14].length = [0x0000#14].length ∧ NoReset [0x1FFF#14] ∧ NoReset [0x0000#14] ∧
      (at_ 1 1 0b001#3 0x000#12 [0x1FFF#14]).refreshCount = (at_ 1 1 0b001#3 0xABC#12 [0x0000#14]).refreshCount ∧
      (at_ 1 1 0b001#3 0x000#12 [0x1FFF#14]).count = (at_ 1 1 0b001#3 0xABC#12 [0x0000#14]).count ∧
      (at_ 1 1 0b001#3 0x000#12 [0x1FFF#14]).digit = (at_ 1 1 0b001#3 0xABC#12 [0x0000#14]).digit :=
  ⟨rfl, rfl, rfl, noReset_of_all rfl, noReset_of_all rfl, rfl, rfl, rfl⟩

/-- The shared hypotheses of the statements about time: any words without a reset, from a count at most R. -/
theorem witness_CountIsModuloThePeriod :
    (at_ 2 2 0b100#3 0 [0x1FFF#14, 0x0000#14]).stimulus = edges [0x1FFF#14, 0x0000#14] ++ [] ∧
      NoReset [0x1FFF#14, 0x0000#14] ∧
      (at_ 2 2 0b100#3 0 [0x1FFF#14, 0x0000#14]).count ≤ (at_ 2 2 0b100#3 0 [0x1FFF#14, 0x0000#14]).refreshCount :=
  ⟨rfl, noReset_of_all rfl, by decide⟩

theorem witness_DigitRotatesOncePerPeriod :
    (at_ 0 0 0b100#3 0 [0x0000#14]).stimulus = edges [0x0000#14] ++ [] ∧ NoReset [0x0000#14] ∧
      (at_ 0 0 0b100#3 0 [0x0000#14]).count ≤ (at_ 0 0 0b100#3 0 [0x0000#14]).refreshCount :=
  ⟨rfl, noReset_of_all rfl, by decide⟩

/-- Both clauses: one edge from count = R - 1 (no rotation yet), two edges from it (the rotation). -/
theorem witness_NextRotationArrives :
    (at_ 2 1 0b001#3 0 [0x0000#14]).stimulus = edges [0x0000#14] ++ [] ∧ NoReset [0x0000#14] ∧
      (at_ 2 1 0b001#3 0 [0x0000#14]).count ≤ (at_ 2 1 0b001#3 0 [0x0000#14]).refreshCount ∧
      [0x0000#14].length ≤ 2 - 1 ∧
      (at_ 2 1 0b001#3 0 [0x0000#14, 0x1123#14]).stimulus = edges [0x0000#14, 0x1123#14] ++ [] ∧
      NoReset [0x0000#14, 0x1123#14] ∧ [0x0000#14, 0x1123#14].length = 2 - 1 + 1 :=
  ⟨rfl, noReset_of_all rfl, by decide, by decide, rfl, noReset_of_all rfl, rfl⟩

/-- All clauses, with R = 0: one, two and three edges, from a one-hot digit. -/
theorem witness_FrameHasThreePeriods (n : Nat) (_ : n = 1 ∨ n = 2 ∨ n = 3) :
    (at_ 0 0 0b010#3 0 (List.replicate n 0x0000#14)).stimulus = edges (List.replicate n 0x0000#14) ++ [] ∧
      NoReset (List.replicate n 0x0000#14) ∧ Digit.oneHot 0b010#3 = true ∧
      (at_ 0 0 0b010#3 0 (List.replicate n 0x0000#14)).count
        ≤ (at_ 0 0 0b010#3 0 (List.replicate n 0x0000#14)).refreshCount ∧
      (List.replicate n 0x0000#14).length = n * (0 + 1) := by
  refine ⟨by simp [at_], ?_, rfl, le_refl _, by simp⟩
  intro w hw
  rw [List.eq_of_mem_replicate hw]
  decide

/-- All clauses, with R = 0: zero, one and two edges. -/
theorem witness_DisplayOrderFromReset (n : Nat) (hn : n < 3) :
    NoReset (List.replicate n 0x1ABC#14) ∧ (List.replicate n 0x1ABC#14).length / (0 + 1) % 3 = n := by
  refine ⟨?_, by simp [Nat.mod_eq_of_lt hn]⟩
  intro w hw
  rw [List.eq_of_mem_replicate hw]
  decide

/-- Both sides of advance, and a write that leaves the selected nibble as it is. -/
theorem witness_OutputsAreStableBetweenAdvances :
    (at_ 3 3 0b001#3 0x800#12 [0x18FF#14]).Inv ∧ (at_ 3 3 0b001#3 0x800#12 [0x18FF#14]).advance = true ∧
      (at_ 3 2 0b001#3 0x800#12 [0x18FF#14]).Inv ∧ (at_ 3 2 0b001#3 0x800#12 [0x18FF#14]).advance = false ∧
      (at_ 3 2 0b001#3 0x800#12 [0x18FF#14]).stimulus = .edge 0x18FF#14 :: [] ∧ InputWord.rst 0x18FF#14 = false ∧
      select 0b001#3 (InputWord.wrData 0x18FF#14) = select 0b001#3 0x800#12 ∧
      (at_ 3 2 0b001#3 0x800#12 [0x0000#14]).stimulus = .edge 0x0000#14 :: [] ∧ InputWord.wrEn 0x0000#14 = false := by
  decide

theorem witness_EndToEndExample :
    ∀ d ∈ [0b100#3, 0b010#3, 0b001#3], (at_ 1 0 d 0xABC#12 []).value = 0xABC#12 ∧ (at_ 1 0 d 0xABC#12 []).digit = d := by
  decide

end Sys2Proof.Tests
end

/-! ## What a step does, by its clock event -/
section

namespace Sys2Proof.Machine

/-- A step whose event is an edge (R142). -/
theorem step_of_edge {s : State} {w : InputWord} (h : s.nextEvent = .edge w) :
    step s = .next (s.consume.afterEdge w).endCycle.settle := by
  simp only [step, h, runEdge_eq]

/-- A step while the clock is stopped (R171). -/
theorem step_of_stopped {s : State} (h : s.nextEvent = .stopped) : step s = .next s.consume.settle := by
  simp only [step, h]

/-- Every step ends by evaluating the combinational path (R141, R150). -/
theorem step_ends_settled (s : State) : ∃ u : State, step s = .next u.settle := by
  cases h : s.nextEvent with
  | edge w => exact ⟨_, step_of_edge h⟩
  | stopped => exact ⟨_, step_of_stopped h⟩

end Sys2Proof.Machine
end

/-! ## The SegmentDecoder (R80, R81) -/
section

namespace Sys2Proof.Machine

theorem segmentLit_eq_true_iff (p : Segments) (i : Nat) : segmentLit p i = true ↔ p.getLsbD i = false := by
  simp [segmentLit]

theorem segmentLit_eq_false_iff (p : Segments) (i : Nat) : segmentLit p i = false ↔ p.getLsbD i = true := by
  simp [segmentLit]

theorem segmentPattern_ne_allDark : ∀ n : Nibble, segmentPattern n ≠ 0b1111111#7 := by decide

/-- Settles O26: every step ends by evaluating the combinational path, which drives the port with the decoder's pattern
of the selected nibble. -/
theorem segmentsAreActiveLow : Obligations.SegmentsAreActiveLow := by
  intro s
  obtain ⟨u, hstep⟩ := step_ends_settled s
  have hport : u.settle.ports.segments = segmentPattern u.settle.nibble := rfl
  exact ⟨u.settle, hstep, hport, fun i _ => ⟨(segmentLit_eq_true_iff _ i).mpr, (segmentLit_eq_false_iff _ i).mpr⟩⟩

/-- Settles O25: each row is the one its nibble selects, so `exec_decodeSegdec4` gives its pattern and its frame; the
lit bits are those of the finite table. -/
theorem decoderTable : Obligations.DecoderTable := by
  refine ⟨fun s => ?rows, exec_decodeSegdec4, ?litBits, segmentPattern_ne_allDark⟩
  case rows =>
    exact ⟨exec_decodeSegdec4 0x0#4 s, exec_decodeSegdec4 0x1#4 s, exec_decodeSegdec4 0x2#4 s,
      exec_decodeSegdec4 0x3#4 s, exec_decodeSegdec4 0x4#4 s, exec_decodeSegdec4 0x5#4 s,
      exec_decodeSegdec4 0x6#4 s, exec_decodeSegdec4 0x7#4 s, exec_decodeSegdec4 0x8#4 s,
      exec_decodeSegdec4 0x9#4 s, exec_decodeSegdec4 0xA#4 s, exec_decodeSegdec4 0xB#4 s,
      exec_decodeSegdec4 0xC#4 s, exec_decodeSegdec4 0xD#4 s, exec_decodeSegdec4 0xE#4 s,
      exec_decodeSegdec4 0xF#4 s⟩
  case litBits => decide

end Sys2Proof.Machine
end

/-! ## ADVANCE: the comparison of the count with the threshold (R92) -/
section

namespace Sys2Proof.Machine

theorem State.advance_eq_false_iff (s : State) : s.advance = false ↔ s.count ≠ s.refreshCount :=
  Bool.eq_false_iff.trans (not_congr s.advance_iff)

/-- With threshold 0 the invariant `count ≤ R` (R25) leaves only `count = R`. -/
theorem State.advance_of_refreshCount_eq_zero {s : State} (hR : s.refreshCount = 0)
    (hinv : s.count ≤ s.refreshCount) : s.advance = true := by
  have hcount : s.count = s.refreshCount := by omega
  exact s.advance_iff.mpr hcount

/-- Settles O19: the comparison is `advance_iff`; R = 0 follows by the invariant, and the example with R = 2 by the two
directions of the comparison. -/
theorem advanceIsCountEqualsThreshold : Obligations.AdvanceIsCountEqualsThreshold := by
  refine ⟨State.advance_iff, fun _ => State.advance_of_refreshCount_eq_zero, ?atThreshold, ?belowThreshold⟩
  case atThreshold =>
    intro s hR hcount
    exact s.advance_iff.mpr (hcount.trans hR.symm)
  case belowThreshold =>
    intro s hR hcount
    exact s.advance_eq_false_iff.mpr (by omega)

end Sys2Proof.Machine
end

/-! ## The DigitScanner at an edge (R110, R111) -/
section

namespace Sys2Proof.Machine

/-- HOLD (R111): without `advance` the scanner's next digit is the present one. -/
theorem State.digitNext_of_not_advance {s : State} (h : s.advance = false) : s.digitNext = s.digit := by
  rw [State.digitNext_eq, if_neg (s.advance_eq_false_iff.mp h)]

/-- At a listed edge without a reset the digit takes the scanner's next value, whether or not the edge writes. -/
theorem step_digit_of_noReset {s : State} {w : InputWord} {rest : List ClockEvent} (hs : s.stimulus = .edge w :: rest)
    (hrst : InputWord.rst w = false) : ∃ t, step s = .next t ∧ t.digit = s.digitNext := by
  refine ⟨_, step_of_edge (State.nextEvent_cons hs), ?_⟩
  simp [State.afterEdge_digit hrst]

/-- Settles O21: the edge gives the digit its next value, which without `advance` is the present one. -/
theorem noAdvanceHoldsTheDigit : Obligations.NoAdvanceHoldsTheDigit := by
  intro s w rest hs hrst hadv
  obtain ⟨t, hstep, hdigit⟩ := step_digit_of_noReset hs hrst
  exact ⟨t, hstep, hdigit.trans (State.digitNext_of_not_advance hadv)⟩

end Sys2Proof.Machine
end

/-! ## The NibbleSelector (R130, R131) -/
section

namespace Sys2Proof.Machine

theorem exec_select001 (s : State) : exec .select001 s = .next (s.driveNibble (nibble2 s.value)) := rfl

theorem exec_select010 (s : State) : exec .select010 s = .next (s.driveNibble (nibble1 s.value)) := rfl

theorem exec_select100 (s : State) : exec .select100 s = .next (s.driveNibble (nibble0 s.value)) := rfl

@[simp] theorem select_001 (v : Value) : select 0b001#3 v = some (v.extractLsb' 8 4) := rfl

@[simp] theorem select_010 (v : Value) : select 0b010#3 v = some (v.extractLsb' 4 4) := rfl

@[simp] theorem select_100 (v : Value) : select 0b100#3 v = some (v.extractLsb' 0 4) := rfl

/-- A digit that is not one-hot has no row in the selector (R131). -/
theorem select_of_not_oneHot {d : Digit} (v : Value) (h : Digit.oneHot d = false) : select d v = none :=
  Option.isNone_iff_eq_none.mp (Option.isSome_eq_false_iff.mp ((select_isSome d v).trans h))

theorem State.selectedNibble_of_select {s : State} {n : Nibble} (h : select s.digit s.value = some n) :
    s.selectedNibble = n := by
  rw [State.selectedNibble, h, Option.getD_some]

/-- Where SELECT is UNSPECIFIED the nibble is the cycle's free draw (R131; log 7). -/
theorem State.selectedNibble_of_not_oneHot {s : State} (h : Digit.oneHot s.digit = false) :
    s.selectedNibble = Config.freeNibble s.cycle := by
  rw [State.selectedNibble, select_of_not_oneHot s.value h, Option.getD_none]

theorem State.selectedNibble_eq (s : State) :
    s.selectedNibble =
      if s.digit = 0b100#3 then s.value.extractLsb' 0 4
      else if s.digit = 0b010#3 then s.value.extractLsb' 4 4
      else if s.digit = 0b001#3 then s.value.extractLsb' 8 4
      else Config.freeNibble s.cycle := by
  split_ifs with h100 h010 h001
  · exact State.selectedNibble_of_select (by rw [h100, select_100])
  · exact State.selectedNibble_of_select (by rw [h010, select_010])
  · exact State.selectedNibble_of_select (by rw [h001, select_001])
  · have hdigit : Digit.oneHot s.digit = false := by simp [Digit.oneHot, h100, h010, h001]
    exact State.selectedNibble_of_not_oneHot hdigit

/-- Settles O23: the combinational path drives the selected nibble, and each one-hot digit selects one field of the
value, so SELECT reads no other bit. -/
theorem selectorDrivesTheSelectedNibble : Obligations.SelectorDrivesTheSelectedNibble := by
  refine ⟨?rows, ?settled, ?reads001, ?reads010, ?reads100, ?worked⟩
  case rows => exact fun s => ⟨exec_select100 s, exec_select010 s, exec_select001 s⟩
  case settled => exact fun s => s.settle_nibble.trans s.selectedNibble_eq
  case reads001 =>
    intro v x hfield
    rw [select_001, select_001, hfield]
  case reads010 =>
    intro v x hfield
    rw [select_010, select_010, hfield]
  case reads100 =>
    intro v x hfield
    rw [select_100, select_100, hfield]
  case worked => decide

end Sys2Proof.Machine
end

/-! ## The outputs of a cycle (R141, R149) -/
section

namespace Sys2Proof.Machine

@[simp] theorem State.settle_ports (s : State) : s.settle.ports = ⟨s.digit, segmentPattern s.selectedNibble⟩ := rfl

theorem State.settle_ports_eq_out (s : State) : s.settle.ports = s.settle.out := rfl

/-- Where SELECT has a result the outputs show its pattern. -/
theorem State.settle_ports_of_select {s : State} {n : Nibble} (h : select s.digit s.value = some n) :
    s.settle.ports = ⟨s.digit, segmentPattern n⟩ := by
  rw [State.settle_ports, State.selectedNibble_of_select h]

/-- On a one-hot digit the selected nibble is no free draw, so the index of the cycle does not matter. -/
theorem State.selectedNibble_congr_of_oneHot {s t : State} (hd : s.digit = t.digit) (hv : s.value = t.value)
    (hone : Digit.oneHot s.digit = true) : s.selectedNibble = t.selectedNibble := by
  apply Option.some.inj
  calc some s.selectedNibble
      = select s.digit s.value := s.selectedNibble_of_oneHot hone
    _ = select t.digit t.value := by rw [hd, hv]
    _ = some t.selectedNibble := (t.selectedNibble_of_oneHot (hd ▸ hone)).symm

/-- Out reads the digit and the value only (R141). -/
theorem State.out_congr {s t : State} (hd : s.digit = t.digit) (hv : s.value = t.value)
    (hone : Digit.oneHot s.digit = true) : s.out = t.out := by
  rw [State.out, State.out, State.selectedNibble_congr_of_oneHot hd hv hone, hd]

theorem State.resetWith_ports_eq_out (R : Nat) : (State.resetWith R).ports = (State.resetWith R).out := by
  rw [State.out, State.resetWith_selectedNibble]
  rfl

/-- Settles O31: every step ends by evaluating the combinational path, whose outputs are Out of the registers. -/
theorem portsCarryOut : Obligations.PortsCarryOut := by
  refine ⟨?afterStep, fun _ _ => State.out_congr, State.resetWith_ports_eq_out _⟩
  case afterStep =>
    intro s
    obtain ⟨u, hstep⟩ := step_ends_settled s
    refine ⟨u.settle, hstep, u.settle_ports_eq_out, rfl, fun n hn => ?_⟩
    have hnibble : u.selectedNibble = n := State.selectedNibble_of_select hn
    exact ⟨hnibble, congrArg segmentPattern hnibble⟩

/-- A digit and a value that select `n` show `n` in the cycle that they stand in. -/
theorem State.settle_shows {s : State} {d : Digit} {v : Value} {n : Nibble} (hv : s.value = v) (hd : s.digit = d)
    (h : select d v = some n) : s.settle.nibble = n ∧ s.settle.ports = ⟨d, segmentPattern n⟩ := by
  subst hv hd
  exact ⟨State.selectedNibble_of_select h, State.settle_ports_of_select h⟩

/-- Settles O47: each digit selects its nibble of 0xABC, and the settled cycle shows that nibble's pattern. -/
theorem endToEndExample : Obligations.EndToEndExample := by
  intro s hv
  have shown100 : select 0b100#3 0xABC#12 = some 0xC#4 := by decide
  have shown010 : select 0b010#3 0xABC#12 = some 0xB#4 := by decide
  have shown001 : select 0b001#3 0xABC#12 = some 0xA#4 := by decide
  exact ⟨fun hd => State.settle_shows hv hd shown100, fun hd => State.settle_shows hv hd shown010,
    fun hd => State.settle_shows hv hd shown001⟩

end Sys2Proof.Machine
end

/-! ## The per-edge update (R142, R145) -/
section

namespace Sys2Proof.Machine

theorem exec_tick (s : State) : exec .tick s = .next s.clockTick := rfl

theorem exec_tickWr (v : Value) (s : State) : exec (.tickWr v) s = .next (s.clockTick.cfgWrite v) := rfl

/-- Writing the value already held changes nothing (R48). -/
theorem State.cfgWrite_held (s : State) : s.cfgWrite s.value = s := rfl

theorem State.clockTick_eq (s : State) :
    s.clockTick = { s with
      count := if s.count = s.refreshCount then 0 else s.count + 1
      digit := if s.count = s.refreshCount then rotate s.digit else s.digit } := by
  rw [State.clockTick, State.countNext_eq, State.digitNext_eq]

/-- The operation of an edge does not read the events to come. -/
theorem State.consume_afterEdge (s : State) (w : InputWord) : s.consume.afterEdge w = (s.afterEdge w).consume := by
  unfold State.afterEdge
  split_ifs <;> rfl

/-- A listed edge has a next state: the registers after its operation, in the next cycle, with its outputs. -/
theorem step_of_listed_edge {s : State} {w : InputWord} {rest : List ClockEvent} (hs : s.stimulus = .edge w :: rest) :
    step s = .next (s.afterEdge w).consume.endCycle.settle := by
  rw [step_of_edge (State.nextEvent_cons hs), State.consume_afterEdge]

/-- Step of R142 on the three registers, over the RefreshTimer's and the DigitScanner's next values. -/
theorem State.afterEdge_registers (s : State) (w : InputWord) :
    ((s.afterEdge w).count, (s.afterEdge w).digit, (s.afterEdge w).value) =
      if InputWord.rst w = true then (0, 0b001#3, 0x000#12)
      else (s.countNext, s.digitNext, if InputWord.wrEn w = true then InputWord.wrData w else s.value) := by
  cases hrst : InputWord.rst w with
  | true => simp [State.afterEdge_of_rst hrst]
  | false => simp [State.afterEdge_count hrst, State.afterEdge_digit hrst, State.afterEdge_value hrst]

/-- Settles O18: a listed edge always has a next state, whose registers `afterEdge_registers` gives. -/
theorem stepIsThePerEdgeUpdate : Obligations.StepIsThePerEdgeUpdate := by
  intro s w rest hs
  have hregisters := s.afterEdge_registers w
  rw [State.countNext_eq, State.digitNext_eq] at hregisters
  exact ⟨_, step_of_listed_edge hs, hregisters⟩

/-- The edge that samples a write word with `rst = 0` takes the TICK and the write (R145). -/
theorem State.afterEdge_writeWord (s : State) (v : Value) :
    s.afterEdge (inputWord false true v) = s.clockTick.cfgWrite v := by
  simp [State.afterEdge]

/-- Settles O16: TICK_WR is the TICK followed by the write, and the step that runs it ends with the outputs of the new
digit and the new value. -/
theorem tickWrResult : Obligations.TickWrResult := by
  intro s v
  refine ⟨?result, ?heldValue, ?nextCycle⟩
  case result =>
    rw [exec_tickWr, State.clockTick_eq]
    rfl
  case heldValue =>
    rintro rfl
    rw [exec_tickWr, exec_tick, ← s.clockTick_value, State.cfgWrite_held]
  case nextCycle =>
    intro rest hs
    have hstep := step_of_listed_edge hs
    rw [State.afterEdge_writeWord] at hstep
    exact ⟨_, hstep, rfl, s.digitNext_eq, fun _ => State.settle_ports_of_select⟩

end Sys2Proof.Machine
end

/-! ## Runs of any length (R150) -/
section

namespace Sys2Proof.Machine

theorem run_zero (s : State) : Host.Core.run core 0 s = .next s := rfl

/-- A run of one more step goes on from the next state. -/
theorem run_succ_of_step {M : Host.Core} {s t : M.State} (h : M.step s = .next t) (n : Nat) :
    M.run (n + 1) s = M.run n t := by
  rw [Host.Core.run, h]

/-- Settles O32, by induction on the number of steps: each step has a next state, whatever its clock event. -/
theorem theBlockNeverStops : Obligations.TheBlockNeverStops := by
  intro n
  induction n with
  | zero => exact fun s => ⟨s, run_zero s⟩
  | succ n ih =>
    intro s
    obtain ⟨u, hstep⟩ := step_ends_settled s
    obtain ⟨t, hrun⟩ := ih u.settle
    exact ⟨t, (run_succ_of_step (M := core) hstep n).trans hrun⟩

end Sys2Proof.Machine
end

/-! ## The decoder and the encoder (R61, R62, R67, R70) -/
section

namespace Sys2Proof

theorem decode_encode (i : Instr) : decode (encode i) = .ok i := by
  cases i with
  | tickWr v => simp only [encode, decode, decodeIn14_inputWord]; rfl
  | _ => rfl

theorem encode_wf (i : Instr) : (encode i).wf = true := by
  cases i <;> rfl

/-- Settles O2: the encoder's word is well-formed, and the decoder reads the operation and its operand back from it. -/
theorem decodeOfEncodeIsTheInstruction : Obligations.DecodeOfEncodeIsTheInstruction :=
  fun i _ => ⟨encode_wf i, decode_encode i⟩

/-! ### The bits under the masks of the opcode table -/

/-- The bit under the mask of RESET is `rst`. -/
theorem toNat_and_resetMask (w : InputWord) : w.toNat &&& 0x2000 = (InputWord.rst w).toNat * 0x2000 :=
  Nat.and_two_pow w.toNat 13

/-- The bits under the mask of TICK and TICK_WR are `rst` and `wr_en`. -/
theorem toNat_and_tickMask (w : InputWord) :
    w.toNat &&& 0x3000 = (InputWord.rst w).toNat * 0x2000 ||| (InputWord.wrEn w).toNat * 0x1000 :=
  (Nat.and_or_distrib_left w.toNat (2 ^ 13) (2 ^ 12)).trans
    (congrArg₂ (· ||| ·) (Nat.and_two_pow w.toNat 13) (Nat.and_two_pow w.toNat 12))

theorem nibble_toNat_and_mask (n : Nibble) : n.toNat &&& 0xF = n.toNat :=
  Nat.and_two_pow_sub_one_of_lt_two_pow n.isLt

theorem digit_toNat_and_mask (d : Digit) : d.toNat &&& 0b111 = d.toNat :=
  Nat.and_two_pow_sub_one_of_lt_two_pow d.isLt

/-! ### The row of a decoded word -/

theorem decodeIn14_eq_tick_iff (w : InputWord) :
    decodeIn14 w = .tick ↔ InputWord.rst w = false ∧ InputWord.wrEn w = false := by
  unfold decodeIn14
  split_ifs <;> simp_all

theorem decodeIn14_row (w : InputWord) :
    (decodeIn14 w).row =
      if InputWord.rst w then ⟨.in14, 0x2000, 0x2000⟩
      else if InputWord.wrEn w then ⟨.in14, 0x1000, 0x3000⟩ else ⟨.in14, 0x0000, 0x3000⟩ := by
  unfold decodeIn14
  split_ifs <;> rfl

theorem decodeSegdec4_row : ∀ n : Nibble, (decodeSegdec4 n).row = ⟨.segdec4, n.toNat, 0xF⟩ := by decide

theorem decodeNibsel3_row {d : Digit} {i : Instr} (h : decodeNibsel3 d = .ok i) :
    i.row = ⟨.nibsel3, d.toNat, 0b111⟩ := by
  unfold decodeNibsel3 at h
  split_ifs at h with h001 h010 h100 <;> cases h
  · rw [h001]; rfl
  · rw [h010]; rfl
  · rw [h100]; rfl

/-- The words under an IN14 row are those that decode to an operation of that row: `rst` and `wr_en` decide both. -/
theorem row_matches_in14_iff (i : Instr) (w : InputWord) : i.row.Matches (.in14 w) ↔ (decodeIn14 w).row = i.row := by
  rw [decodeIn14_row]
  cases i with
  | reset =>
    simp only [Row.Matches, Instr.row, Code.format, Code.bits, toNat_and_resetMask]
    cases InputWord.rst w <;> cases InputWord.wrEn w <;> decide
  | tick =>
    simp only [Row.Matches, Instr.row, Code.format, Code.bits, toNat_and_tickMask]
    cases InputWord.rst w <;> cases InputWord.wrEn w <;> decide
  | tickWr v =>
    simp only [Row.Matches, Instr.row, Code.format, Code.bits, toNat_and_tickMask]
    cases InputWord.rst w <;> cases InputWord.wrEn w <;> decide
  | _ =>
    simp only [Row.Matches, Instr.row, Code.format]
    cases InputWord.rst w <;> cases InputWord.wrEn w <;> simp

/-- Every row of the format SEGDEC4 looks at the whole nibble. -/
theorem row_mask_of_segdec4 {i : Instr} (h : i.row.format = .segdec4) : i.row.mask = 0xF := by
  cases i <;> cases h <;> rfl

/-- Every row of the format NIBSEL3 looks at the whole digit. -/
theorem row_mask_of_nibsel3 {i : Instr} (h : i.row.format = .nibsel3) : i.row.mask = 0b111 := by
  cases i <;> cases h <;> rfl

/-- Where the rows of a word's format look at the whole word, the row that it matches is given by the word. -/
theorem row_matches_iff_of_wholeMask {r : Row} {c : Code} {m : Nat} (hmask : r.format = c.format → r.mask = m)
    (hwhole : c.bits &&& m = c.bits) : r.Matches c ↔ r = ⟨c.format, c.bits, m⟩ := by
  constructor
  · rintro ⟨hformat, hbits⟩
    have hm : r.mask = m := hmask hformat.symm
    rw [hm, hwhole] at hbits
    rw [hformat, hbits, ← hm]
  · rintro rfl
    exact ⟨rfl, hwhole⟩

theorem row_matches_segdec4_iff (i : Instr) (n : Nibble) :
    i.row.Matches (.segdec4 n) ↔ i.row = ⟨.segdec4, n.toNat, 0xF⟩ :=
  row_matches_iff_of_wholeMask row_mask_of_segdec4 (nibble_toNat_and_mask n)

theorem row_matches_nibsel3_iff (i : Instr) (d : Digit) :
    i.row.Matches (.nibsel3 d) ↔ i.row = ⟨.nibsel3, d.toNat, 0b111⟩ :=
  row_matches_iff_of_wholeMask row_mask_of_nibsel3 (digit_toNat_and_mask d)

theorem decodeNibsel3_of_row {d : Digit} {i : Instr} (h : i.row = ⟨.nibsel3, d.toNat, 0b111⟩) :
    decodeNibsel3 d = .ok i := by
  have hpattern : i.row.pattern = d.toNat := congrArg Row.pattern h
  cases i with
  | select001 => rw [show d = 0b001#3 from BitVec.eq_of_toNat_eq hpattern.symm]; rfl
  | select010 => rw [show d = 0b010#3 from BitVec.eq_of_toNat_eq hpattern.symm]; rfl
  | select100 => rw [show d = 0b100#3 from BitVec.eq_of_toNat_eq hpattern.symm]; rfl
  | _ => cases congrArg Row.format h

/-- The words under a row are those that decode to an operation of that row. -/
theorem row_matches_iff (c : Code) (i : Instr) : i.row.Matches c ↔ ∃ j, decode c = .ok j ∧ j.row = i.row := by
  cases c with
  | in14 w => simp only [row_matches_in14_iff, decode, Except.ok.injEq, exists_eq_left']
  | segdec4 n =>
    rw [row_matches_segdec4_iff, ← decodeSegdec4_row, eq_comm]
    simp only [decode, Except.ok.injEq, exists_eq_left']
  | nibsel3 d =>
    rw [row_matches_nibsel3_iff]
    constructor
    · exact fun hrow => ⟨i, decodeNibsel3_of_row hrow, rfl⟩
    · rintro ⟨j, hj, hrow⟩
      exact hrow.symm.trans (decodeNibsel3_row hj)

theorem decode_matches {c : Code} {i : Instr} (h : decode c = .ok i) : i.row.Matches c :=
  (row_matches_iff c i).mpr ⟨i, h, rfl⟩

/-- A word decodes to an operation of its own format. -/
theorem decode_format {c : Code} {i : Instr} (h : decode c = .ok i) : c.format = i.row.format :=
  (decode_matches h).1

/-- Settles O4: the words under a row are those that decode to an operation of that row. -/
theorem matchingWordDecodesToItsRow : Obligations.MatchingWordDecodesToItsRow :=
  fun c i => (row_matches_iff c i).mp

/-! ### The operand of TICK_WR -/

theorem wrData_of_decodeIn14 {w : InputWord} {v : Value} (h : decodeIn14 w = .tickWr v) : v = InputWord.wrData w := by
  unfold decodeIn14 at h
  split_ifs at h
  exact (Instr.tickWr.inj h).symm

theorem wrData_getLsbD (w : InputWord) {j : Nat} (hj : j < 12) : (InputWord.wrData w).getLsbD j = w.getLsbD j := by
  simp [InputWord.wrData, hj]

/-- Settles O3: the word matches the row of the operation it decodes to, so a word that decodes to TICK_WR is an input
word, and the operand is its write data. -/
theorem decodedWordMatchesItsRow : Obligations.DecodedWordMatchesItsRow := by
  intro c i h
  refine ⟨decode_matches h, ?operand⟩
  case operand =>
    rintro v rfl
    cases c with
    | in14 w =>
      obtain rfl := wrData_of_decodeIn14 (Except.ok.inj h)
      exact ⟨w, rfl, fun _ => wrData_getLsbD w⟩
    | segdec4 n => cases decode_format h
    | nibsel3 d => cases decode_format h

/-! ### Refused words, written-out words and stimulus lines -/

/-- The selector refuses the digits that have no row, by name (R67). -/
theorem decodeNibsel3_eq_error_iff (d : Digit) (e : DecodeError) :
    decodeNibsel3 d = .error e ↔ e = .reservedDigit d ∧ d ≠ 0b001#3 ∧ d ≠ 0b010#3 ∧ d ≠ 0b100#3 := by
  unfold decodeNibsel3
  split_ifs <;> simp_all [eq_comm]

/-- Settles O5: the decoders of the formats IN14 and SEGDEC4 are total, and the selector's refuses the digits that have
no row. -/
theorem onlyReservedDigitsAreRefused : Obligations.OnlyReservedDigitsAreRefused := by
  intro c e
  cases c with
  | in14 w => simp [decode]
  | segdec4 n => simp [decode]
  | nibsel3 d => simp [decode, decodeNibsel3_eq_error_iff]

/-- Settles O1: nine fixed words, by evaluation of the decoder. -/
theorem writtenOutWordsDecode : Obligations.WrittenOutWordsDecode := by
  unfold Obligations.WrittenOutWordsDecode
  decide

/-- Settles O6: the words of the lines are the composed input words that `decodeIn14_inputWord` decodes. -/
theorem stimulusLinesDecode : Obligations.StimulusLinesDecode := by
  have resetWord : decodeIn14 0x2000#14 = .reset := by decide
  have tickWord : decodeIn14 0x0000#14 = .tick := by decide
  refine ⟨?reset, ?resetWr, ?tick, ?wr, ?ticks⟩
  case reset => simp [Machine.Line.words, resetWord]
  case resetWr => simp [Machine.Line.words, decodeIn14_inputWord]
  case tick => simp [Machine.Line.words, tickWord]
  case wr => simp [Machine.Line.words, decodeIn14_inputWord]
  case ticks => simp [Machine.Line.words, tickWord]

end Sys2Proof
end

/-! ## The cycle after an edge, and the invariant (R24, R25, R141) -/
section

namespace Sys2Proof.Machine

/-- The cycle after a listed edge that samples `w`: the registers after its operation, with their outputs. -/
def State.nextCycle (s : State) (w : InputWord) : State := (s.afterEdge w).consume.endCycle.settle

theorem step_eq_nextCycle {s : State} {w : InputWord} {rest : List ClockEvent} (hs : s.stimulus = .edge w :: rest) :
    step s = .next (s.nextCycle w) :=
  step_of_listed_edge hs

/-- What a step can do: it runs an edge, or while the clock is stopped it evaluates the outputs again. -/
theorem step_cases {s t : State} (h : step s = .next t) :
    (∃ w, s.nextEvent = .edge w ∧ t = s.nextCycle w) ∨ (s.nextEvent = .stopped ∧ t = s.consume.settle) := by
  cases hevent : s.nextEvent with
  | edge w =>
    rw [step_of_edge hevent, State.consume_afterEdge] at h
    exact .inl ⟨w, rfl, (Host.Outcome.next.inj h).symm⟩
  | stopped =>
    rw [step_of_stopped hevent] at h
    exact .inr ⟨rfl, (Host.Outcome.next.inj h).symm⟩

@[simp] theorem State.nextCycle_refreshCount (s : State) (w : InputWord) :
    (s.nextCycle w).refreshCount = s.refreshCount := by
  simp [State.nextCycle]

@[simp] theorem State.nextCycle_stimulus (s : State) (w : InputWord) :
    (s.nextCycle w).stimulus = s.stimulus.tail := by
  simp [State.nextCycle]

@[simp] theorem State.nextCycle_cycle (s : State) (w : InputWord) : (s.nextCycle w).cycle = s.cycle + 1 := by
  simp [State.nextCycle]

theorem State.nextCycle_count_eq (s : State) (w : InputWord) : (s.nextCycle w).count = (s.afterEdge w).count := by
  simp [State.nextCycle]

theorem State.nextCycle_digit_eq (s : State) (w : InputWord) : (s.nextCycle w).digit = (s.afterEdge w).digit := by
  simp [State.nextCycle]

theorem State.nextCycle_value_eq (s : State) (w : InputWord) : (s.nextCycle w).value = (s.afterEdge w).value := by
  simp [State.nextCycle]

theorem State.nextCycle_count {s : State} {w : InputWord} (hrst : InputWord.rst w = false) :
    (s.nextCycle w).count = s.countNext :=
  (s.nextCycle_count_eq w).trans (State.afterEdge_count hrst)

theorem State.nextCycle_digit {s : State} {w : InputWord} (hrst : InputWord.rst w = false) :
    (s.nextCycle w).digit = s.digitNext :=
  (s.nextCycle_digit_eq w).trans (State.afterEdge_digit hrst)

theorem State.nextCycle_value {s : State} {w : InputWord} (hrst : InputWord.rst w = false) :
    (s.nextCycle w).value = if InputWord.wrEn w then InputWord.wrData w else s.value :=
  (s.nextCycle_value_eq w).trans (State.afterEdge_value hrst)

theorem State.settle_settled (s : State) : s.settle.Settled := ⟨rfl, rfl⟩

theorem State.nextCycle_settled (s : State) (w : InputWord) : (s.nextCycle w).Settled := State.settle_settled _

/-- Evaluating the combinational path again changes nothing (R171). -/
theorem State.Settled.settle_eq {s : State} (h : s.Settled) : s.settle = s := by
  obtain ⟨hnibble, hsegments⟩ := h
  calc s.settle
      = { s with nibble := s.selectedNibble, segments := segmentPattern s.selectedNibble } := rfl
    _ = s := by rw [← hnibble, ← hsegments]

theorem State.Settled.ports_of_select {s : State} {n : Nibble} (h : s.Settled)
    (hn : select s.digit s.value = some n) : s.ports = ⟨s.digit, segmentPattern n⟩ := by
  rw [← h.settle_eq]
  exact State.settle_ports_of_select hn

theorem State.nextCycle_oneHot {s : State} (w : InputWord) (h : Digit.oneHot s.digit = true) :
    Digit.oneHot (s.nextCycle w).digit = true := by
  cases hrst : InputWord.rst w with
  | true => rw [State.nextCycle_digit_eq, State.afterEdge_of_rst hrst]; rfl
  | false => rw [State.nextCycle_digit hrst, State.digitNext_oneHot, h]

theorem State.nextCycle_count_le {s : State} (w : InputWord) (h : s.count ≤ s.refreshCount) :
    (s.nextCycle w).count ≤ s.refreshCount := by
  cases hrst : InputWord.rst w with
  | true => rw [State.nextCycle_count_eq, State.afterEdge_of_rst hrst]; exact Nat.zero_le _
  | false => rw [State.nextCycle_count hrst]; exact s.countNext_le h

theorem State.nextCycle_inv {s : State} (w : InputWord) (h : s.Inv) : (s.nextCycle w).Inv := by
  obtain ⟨hone, hcount, -⟩ := h
  refine ⟨State.nextCycle_oneHot w hone, ?_, s.nextCycle_settled w⟩
  rw [State.nextCycle_refreshCount]
  exact State.nextCycle_count_le w hcount

/-- Settles O33: an edge keeps the digit one-hot and the count at most R, a stopped clock keeps both registers, and
either ends with settled outputs. -/
theorem invariantIsKeptByEveryStep : Obligations.InvariantIsKeptByEveryStep := by
  intro s t hinv hstep
  obtain ⟨w, -, rfl⟩ | ⟨-, rfl⟩ := step_cases hstep
  · exact State.nextCycle_inv w hinv
  · obtain ⟨hone, hcount, -⟩ := hinv
    exact ⟨hone, hcount, State.settle_settled _⟩

theorem State.consume_eq {s : State} {e : ClockEvent} {rest : List ClockEvent} (h : s.stimulus = e :: rest) :
    s.consume = { s with stimulus := rest } := by
  rw [State.consume, h, List.tail_cons]

/-- Settles O35: the step evaluates the combinational path of a settled state, which changes nothing. -/
theorem stoppedClockKeepsTheState : Obligations.StoppedClockKeepsTheState := by
  intro s rest hsettled hs
  have hconsumed : s.consume.Settled := hsettled
  rw [step_of_stopped (State.nextEvent_cons hs), hconsumed.settle_eq, State.consume_eq hs]

/-- The reset state is settled on `value[11:8]`, which is 0 (R182). -/
theorem State.resetWith_settled (R : Nat) : (State.resetWith R).Settled := by
  rw [State.Settled, State.resetWith_selectedNibble]
  exact ⟨rfl, rfl⟩

theorem State.resetWith_inv (R : Nat) : (State.resetWith R).Inv := ⟨rfl, Nat.zero_le R, State.resetWith_settled R⟩

/-- Settles O12: the reset state of any threshold meets the invariant, and `State.reset` is one of these. -/
theorem resetStateMeetsInvariant : Obligations.ResetStateMeetsInvariant :=
  ⟨State.resetWith_inv _, State.resetWith_inv⟩

end Sys2Proof.Machine
end

/-! ## What the rows of the opcode table do (R142, R44, R82) -/
section

namespace Sys2Proof.Machine

@[simp] theorem State.afterEdge_nibble (s : State) (w : InputWord) : (s.afterEdge w).nibble = s.nibble := by
  unfold State.afterEdge; split_ifs <;> rfl

@[simp] theorem State.afterEdge_segments (s : State) (w : InputWord) : (s.afterEdge w).segments = s.segments := by
  unfold State.afterEdge; split_ifs <;> rfl

/-- A row of the selector drives one field of the value. -/
theorem exec_of_decodeNibsel3_drives {d : Digit} {i : Instr} (h : decodeNibsel3 d = .ok i) (s : State) :
    ∃ n, exec i s = .next (s.driveNibble n) := by
  unfold decodeNibsel3 at h
  split_ifs at h <;> cases h
  · exact ⟨_, exec_select001 s⟩
  · exact ⟨_, exec_select010 s⟩
  · exact ⟨_, exec_select100 s⟩

/-- What a row can do, by the word that the encoder gives it: the operation of an edge, a pattern at the port, or a
selected nibble. -/
theorem exec_cases (i : Instr) (s : State) :
    (i.row.format = .in14 ∧ ∃ w, decodeIn14 w = i ∧ exec i s = .next (s.afterEdge w)) ∨
    (i.row.format = .segdec4 ∧ ∃ p, exec i s = .next (s.driveSegments p)) ∨
    (i.row.format = .nibsel3 ∧ ∃ n, exec i s = .next (s.driveNibble n)) := by
  have hdecode := decode_encode i
  have hformat := decode_format hdecode
  cases hword : encode i with
  | in14 w =>
    rw [hword] at hdecode hformat
    obtain rfl := Except.ok.inj hdecode
    exact .inl ⟨hformat.symm, w, rfl, exec_decodeIn14 w s⟩
  | segdec4 n =>
    rw [hword] at hdecode hformat
    obtain rfl := Except.ok.inj hdecode
    exact .inr (.inl ⟨hformat.symm, _, exec_decodeSegdec4 n s⟩)
  | nibsel3 d =>
    rw [hword] at hdecode hformat
    exact .inr (.inr ⟨hformat.symm, exec_of_decodeNibsel3_drives hdecode s⟩)

/-- Settles O17: a row of the format IN14 is the operation of an edge, and TICK is one without a reset and a write. -/
theorem edgeOperationsFrame : Obligations.EdgeOperationsFrame := by
  intro i s hformat
  obtain ⟨-, w, rfl, hexec⟩ | ⟨hrow, -⟩ | ⟨hrow, -⟩ := exec_cases i s
  · refine ⟨_, hexec, s.afterEdge_refreshCount w, s.afterEdge_nibble w, s.afterEdge_segments w,
      s.afterEdge_stimulus w, s.afterEdge_cycle w, fun htick => ?_⟩
    obtain ⟨hrst, hwrEn⟩ := (decodeIn14_eq_tick_iff w).mp htick
    simp [State.afterEdge_value hrst, hwrEn]
  · cases hformat.symm.trans hrow
  · cases hformat.symm.trans hrow

/-- Settles O28: a row of another format drives the port or the nibble, which leaves every other field. -/
theorem combinationalRowsFrame : Obligations.CombinationalRowsFrame := by
  intro i s hformat
  obtain ⟨hrow, -⟩ | ⟨hrow, p, hexec⟩ | ⟨hrow, n, hexec⟩ := exec_cases i s
  · exact absurd hrow hformat
  · refine ⟨_, hexec, rfl, rfl, rfl, rfl, rfl, rfl, fun _ => rfl, fun hselector => ?_⟩
    cases hrow.symm.trans hselector
  · refine ⟨_, hexec, rfl, rfl, rfl, rfl, rfl, rfl, fun hdecoder => ?_, fun _ => rfl⟩
    cases hrow.symm.trans hdecoder

theorem exec_refreshCount (i : Instr) (s : State) : ∃ t, exec i s = .next t ∧ t.refreshCount = s.refreshCount := by
  obtain ⟨-, w, -, hexec⟩ | ⟨-, p, hexec⟩ | ⟨-, n, hexec⟩ := exec_cases i s
  · exact ⟨_, hexec, s.afterEdge_refreshCount w⟩
  · exact ⟨_, hexec, rfl⟩
  · exact ⟨_, hexec, rfl⟩

theorem step_refreshCount {s t : State} (h : step s = .next t) : t.refreshCount = s.refreshCount := by
  obtain ⟨w, -, rfl⟩ | ⟨-, rfl⟩ := step_cases h
  · exact s.nextCycle_refreshCount w
  · rfl

/-- Settles O34: no row and no step changes the threshold, and a run is a sequence of steps. -/
theorem thresholdNeverChanges : Obligations.ThresholdNeverChanges := by
  refine ⟨exec_refreshCount, fun n => ?runs⟩
  case runs =>
    induction n with
    | zero => exact fun s => ⟨s, run_zero s, rfl⟩
    | succ n ih =>
      intro s
      obtain ⟨u, hstep⟩ := step_ends_settled s
      obtain ⟨t, hrun, hthreshold⟩ := ih u.settle
      exact ⟨t, (run_succ_of_step (M := core) hstep n).trans hrun, hthreshold.trans (step_refreshCount hstep)⟩

/-- Settles O15: TICK is the update of the timer and the scanner, written out. -/
theorem tickResult : Obligations.TickResult :=
  fun s => (exec_tick s).trans (congrArg Host.Outcome.next s.clockTick_eq)

/-- Settles O13: RESET sets the three registers. -/
theorem resetWritesTheResetValues : Obligations.ResetWritesTheResetValues :=
  fun _ => rfl

/-- Settles O30: the selector's row drives the selected nibble, and the row of that nibble then drives its pattern. -/
theorem settlingRunsTheSelectedRows : Obligations.SettlingRunsTheSelectedRows := by
  intro s i hrow
  exact ⟨_, _, exec_of_decodeNibsel3 hrow, rfl, exec_decodeSegdec4 _ _⟩

theorem step_eq_runEdge {s : State} {w : InputWord} (h : s.nextEvent = .edge w) : step s = runEdge w s.consume := by
  simp only [step, h]

theorem State.consume_of_nil {s : State} (h : s.stimulus = []) : s.consume = s := by
  rw [State.consume, h, List.tail_nil, ← h]

/-- Settles O29: the step runs the word's edge on the state without the event, or evaluates the combinational path. -/
theorem stepRunsTheDecodedOperation : Obligations.StepRunsTheDecodedOperation := by
  refine ⟨?listed, ?free, ?stopped⟩
  case listed =>
    intro s w rest i hs hdecode
    obtain rfl := Except.ok.inj hdecode
    rw [step_eq_runEdge (State.nextEvent_cons hs), State.consume_eq hs]
    rfl
  case free =>
    intro s i hs hdecode
    obtain rfl := Except.ok.inj hdecode
    rw [step_eq_runEdge (State.nextEvent_nil hs), State.consume_of_nil hs]
    rfl
  case stopped =>
    intro s rest hs
    rw [step_of_stopped (State.nextEvent_cons hs), State.consume_eq hs]

end Sys2Proof.Machine
end

/-! ## Construction and the RefreshTimer's width (R9, R90, R91, R95, R161) -/
section

namespace Sys2Proof.Machine

/-- Settles O7: the finite positive periods are the well-formed ones, and construction succeeds exactly for these. -/
theorem constructionRefusesBadPeriods : Obligations.ConstructionRefusesBadPeriods := by
  refine ⟨?accepted, ?notPositive, (construct_eq .nan).2 rfl, (construct_eq .posInf).2 rfl,
    (construct_eq .negInf).2 rfl⟩
  case accepted =>
    intro ns hpos
    obtain ⟨_, hns, hconstruct⟩ := (construct_eq (.finite ns)).1 (decide_eq_true hpos)
    cases hns
    exact hconstruct
  case notPositive =>
    intro ns hnonpos
    exact (construct_eq (.finite ns)).2 (decide_eq_false (not_lt.mpr hnonpos))

/-- The threshold is the floor of the exact quotient (R90). -/
theorem refreshCountOf_eq_natFloor (p : Rat) : Config.refreshCountOf p = ⌊(2000000 : Rat) / p⌋₊ := rfl

/-- Settles O8: the two bounds are those of a floor, multiplied by the period. -/
theorem thresholdIsFloorOfQuotient : Obligations.ThresholdIsFloorOfQuotient := by
  intro p hp
  have hquotient : 0 ≤ (2000000 : Rat) / p := by positivity
  rw [refreshCountOf_eq_natFloor]
  exact ⟨Int.natCast_floor_eq_floor hquotient, (le_div_iff₀ hp).mp (Nat.floor_le hquotient),
    (div_lt_iff₀ hp).mp (Nat.lt_floor_add_one _)⟩

theorem refreshCountOf_eq_zero_iff {p : Rat} (hp : 0 < p) : Config.refreshCountOf p = 0 ↔ 2000000 < p := by
  rw [refreshCountOf_eq_natFloor, Nat.floor_eq_zero, div_lt_one hp]

theorem State.digitNext_of_advance {s : State} (h : s.advance = true) : s.digitNext = rotate s.digit := by
  rw [State.digitNext_eq, if_pos (s.advance_iff.mp h)]

theorem State.countNext_of_advance {s : State} (h : s.advance = true) : s.countNext = 0 := by
  rw [State.countNext_eq, if_pos (s.advance_iff.mp h)]

/-- Settles O9: the floor is 0 for a quotient below 1, and a threshold 0 makes every cycle one with `advance`. -/
theorem thresholdZeroAdvancesEveryCycle : Obligations.ThresholdZeroAdvancesEveryCycle := by
  refine ⟨fun p => refreshCountOf_eq_zero_iff, ?everyEdge⟩
  case everyEdge =>
    intro s w rest hR hinv hs hrst
    have hadvance := State.advance_of_refreshCount_eq_zero hR hinv
    exact ⟨hadvance, _, step_eq_nextCycle hs,
      (State.nextCycle_digit hrst).trans (State.digitNext_of_advance hadvance),
      (State.nextCycle_count hrst).trans (State.countNext_of_advance hadvance)⟩

/-- R fits in the counter's width (R9). -/
theorem lt_two_pow_counterWidth (R : Nat) : R < 2 ^ Config.counterWidth R :=
  Nat.size_le.mp (le_max_right 1 (Nat.size R))

theorem counterWidth_le {R b : Nat} (hb : 1 ≤ b) (h : R < 2 ^ b) : Config.counterWidth R ≤ b :=
  max_le hb (Nat.size_le.mpr h)

/-- Settles O10: the count stays at most R, which fits in the counter's width. -/
theorem counterWidthSuffices : Obligations.CounterWidthSuffices := by
  intro s hcount
  have hfits := lt_two_pow_counterWidth s.refreshCount
  have hnext := s.countNext_le hcount
  exact ⟨hcount.trans_lt hfits, hnext, hnext.trans_lt hfits, fun _ => counterWidth_le⟩

end Sys2Proof.Machine
end

/-! ## Reset (R164, R180-R182) -/
section

namespace Sys2Proof.Machine

theorem resetWith_advance_iff (R : Nat) : (State.resetWith R).advance = true ↔ R = 0 :=
  (State.advance_iff _).trans eq_comm

/-- Settles O11: the fields of the reset state, whose outputs are those of its registers. -/
theorem resetStateValues : Obligations.ResetStateValues := by
  refine ⟨fun R => ?anyThreshold, rfl, rfl, rfl, rfl⟩
  case anyThreshold =>
    have hout : (State.resetWith R).out = ⟨0b001#3, 0b1000000#7⟩ := (State.resetWith_ports_eq_out R).symm
    exact ⟨rfl, rfl, rfl, rfl, hout, rfl, resetWith_advance_iff R⟩

/-- After an edge with `rst = 1` the registers and the ports are those of reset, whatever the state before and the other
bits of the word (R164, R181). -/
theorem State.nextCycle_of_rst {s : State} {w : InputWord} (h : InputWord.rst w = true) :
    ((s.nextCycle w).count, (s.nextCycle w).digit, (s.nextCycle w).value, (s.nextCycle w).ports) =
      (0, 0b001#3, 0x000#12, ⟨0b001#3, 0b1000000#7⟩) := by
  have hselect : select 0b001#3 0x000#12 = some 0x0#4 := by decide
  have hports : s.resetRegisters.consume.endCycle.settle.ports = ⟨0b001#3, segmentPattern 0x0#4⟩ :=
    State.settle_ports_of_select hselect
  rw [State.nextCycle, State.afterEdge_of_rst h, hports]
  rfl

/-- Settles O14: each of the two edges leads to the reset registers and ports from whatever state it starts in. -/
theorem resetWinsOverEverything : Obligations.ResetWinsOverEverything := by
  intro s w x rest hs hw hx
  have hs' : (s.nextCycle w).stimulus = .edge x :: rest := by rw [State.nextCycle_stimulus, hs, List.tail_cons]
  exact ⟨_, _, step_eq_nextCycle hs, step_eq_nextCycle hs', State.nextCycle_of_rst hw, State.nextCycle_of_rst hx⟩

end Sys2Proof.Machine
end

/-! ## The rotation, and the digits that are not one-hot (R110, R113, R131, R132) -/
section

namespace Sys2Proof.Machine

/-- ROTATE, bit by bit (R110). -/
theorem rotate_getLsbD : ∀ d : Digit, (rotate d).getLsbD 2 = d.getLsbD 0 ∧ (rotate d).getLsbD 1 = d.getLsbD 2 ∧
    (rotate d).getLsbD 0 = d.getLsbD 1 := by decide

/-- Settles O20: with `advance` the digit's next value is ROTATE of it; the digits listed are evaluated. -/
theorem advanceRotatesTheDigit : Obligations.AdvanceRotatesTheDigit := by
  refine ⟨?atEdge, by decide⟩
  case atEdge =>
    intro s w rest hs hrst hadvance
    obtain ⟨t, hstep, hdigit⟩ := step_digit_of_noReset hs hrst
    rw [State.digitNext_of_advance hadvance] at hdigit
    exact ⟨t, hstep, hdigit ▸ rotate_getLsbD s.digit⟩

theorem digitIndex_eq_some_iff (d : Digit) (i : Nat) :
    digitIndex d = some i ↔ (d = 0b001#3 ∧ i = 0) ∨ (d = 0b010#3 ∧ i = 1) ∨ (d = 0b100#3 ∧ i = 2) := by
  unfold digitIndex
  split_ifs <;> simp_all [eq_comm]

/-- Settles O22: the three indices, one by one. -/
theorem rotationStepsTheIndices : Obligations.RotationStepsTheIndices := by
  intro d i h
  obtain ⟨rfl, rfl⟩ | ⟨rfl, rfl⟩ | ⟨rfl, rfl⟩ := (digitIndex_eq_some_iff d i).mp h
  · exact ⟨by decide, by decide, select_001, 2, by decide⟩
  · exact ⟨by decide, by decide, select_010, 0, by decide⟩
  · exact ⟨by decide, by decide, select_100, 1, by decide⟩

/-- The settled outputs of a digit that is not one-hot show the cycle's free draw (R131; log 7). -/
theorem State.Settled.ports_of_not_oneHot {s : State} (h : s.Settled) (hdigit : Digit.oneHot s.digit = false) :
    s.ports = ⟨s.digit, segmentPattern (Config.freeNibble s.cycle)⟩ := by
  rw [← h.settle_eq, State.settle_ports, State.selectedNibble_of_not_oneHot hdigit]
  rfl

/-- Settles O24: such a digit settles on the free draw, and ROTATE keeps it so. -/
theorem nonOneHotDigitGoesOn : Obligations.NonOneHotDigitGoesOn := by
  intro s hdigit
  refine ⟨?settles, ?goesOn⟩
  case settles =>
    rw [← State.selectedNibble_of_not_oneHot hdigit]
    rfl
  case goesOn =>
    intro w rest hs hrst
    have hnext : Digit.oneHot (s.nextCycle w).digit = false := by
      rw [State.nextCycle_digit hrst, State.digitNext_oneHot, hdigit]
    have hports := (s.nextCycle_settled w).ports_of_not_oneHot hnext
    rw [State.nextCycle_cycle] at hports
    exact ⟨_, step_eq_nextCycle hs, hnext, hports⟩

end Sys2Proof.Machine
end

/-! ## The outputs after one step (R84, R144, R146, R147) -/
section

namespace Sys2Proof.Machine

/-- The table of R80 shows no two nibbles alike. -/
theorem segmentPattern_inj : ∀ n m : Nibble, segmentPattern n = segmentPattern m → n = m := by decide

/-- Settles O27: after a step the port carries the pattern of the selected nibble, and the table is injective. -/
theorem segmentsDetermineTheNibble : Obligations.SegmentsDetermineTheNibble := by
  intro s t
  obtain ⟨u, hs⟩ := step_ends_settled s
  obtain ⟨v, ht⟩ := step_ends_settled t
  exact ⟨_, _, hs, ht, segmentPattern_inj u.selectedNibble v.selectedNibble⟩

/-- Settled states with one one-hot digit and the same field selected have the same outputs. -/
theorem State.ports_congr_of_select {s t : State} (hs : s.Settled) (ht : t.Settled)
    (hone : Digit.oneHot s.digit = true) (hdigit : t.digit = s.digit)
    (hselect : select s.digit t.value = select s.digit s.value) : t.ports = s.ports := by
  obtain ⟨n, hn⟩ := Option.isSome_iff_exists.mp ((select_isSome s.digit s.value).trans hone)
  rw [hs.ports_of_select hn, ht.ports_of_select (by rw [hdigit, hselect, hn]), hdigit]

/-- Settles O46: without `advance` the digit holds, so the ports can differ only in the field it selects, and the value
only by a write. -/
theorem outputsAreStableBetweenAdvances : Obligations.OutputsAreStableBetweenAdvances := by
  intro s w rest hinv hs hrst
  obtain ⟨hone, -, hsettled⟩ := hinv
  have hdigit := State.nextCycle_digit (s := s) hrst
  have hvalue := State.nextCycle_value (s := s) hrst
  have hold (hadvance : s.advance = false) : (s.nextCycle w).digit = s.digit :=
    hdigit.trans (State.digitNext_of_not_advance hadvance)
  have stable (hadvance : s.advance = false) :=
    State.ports_congr_of_select hsettled (s.nextCycle_settled w) hone (hold hadvance)
  refine ⟨_, step_eq_nextCycle hs, rfl, ?rotates, hold, ?noWrite, ?sameField⟩
  case rotates => exact fun hadvance => hdigit.trans (State.digitNext_of_advance hadvance)
  case noWrite =>
    intro hadvance hwrEn
    exact stable hadvance (by simp [hvalue, hwrEn])
  case sameField =>
    intro hadvance hfield
    refine stable hadvance ?_
    rw [hvalue]
    split_ifs
    · exact hfield
    · rfl

end Sys2Proof.Machine
end

/-! ## Runs of listed edges -/
section

namespace Sys2Proof.Machine

/-- The cycle after listed edges that sample `ws`, one after another. -/
def State.afterEdges (s : State) (ws : List InputWord) : State := ws.foldl State.nextCycle s

@[simp] theorem State.afterEdges_nil (s : State) : s.afterEdges [] = s := rfl

@[simp] theorem State.afterEdges_cons (s : State) (w : InputWord) (ws : List InputWord) :
    s.afterEdges (w :: ws) = (s.nextCycle w).afterEdges ws := rfl

theorem State.afterEdges_concat (s : State) (ws : List InputWord) (w : InputWord) :
    s.afterEdges (ws ++ [w]) = (s.afterEdges ws).nextCycle w :=
  List.foldl_concat State.nextCycle s w ws

/-- A run over listed edges goes through their cycles, one step per edge (R140). -/
theorem run_edges {s : State} {ws : List InputWord} {rest : List ClockEvent} (hs : s.stimulus = edges ws ++ rest) :
    Host.Core.run core ws.length s = .next (s.afterEdges ws) := by
  induction ws generalizing s with
  | nil => exact run_zero s
  | cons w ws ih =>
    have hnext : (s.nextCycle w).stimulus = edges ws ++ rest := by rw [State.nextCycle_stimulus, hs]; rfl
    exact (run_succ_of_step (M := core) (step_eq_nextCycle hs) ws.length).trans (ih hnext)

theorem State.afterEdges_refreshCount (s : State) (ws : List InputWord) :
    (s.afterEdges ws).refreshCount = s.refreshCount := by
  induction ws generalizing s with
  | nil => rfl
  | cons w ws ih => rw [State.afterEdges_cons, ih, State.nextCycle_refreshCount]

theorem State.afterEdges_settled {s : State} (ws : List InputWord) (h : s.Settled) : (s.afterEdges ws).Settled := by
  induction ws generalizing s with
  | nil => exact h
  | cons w ws ih => exact ih (s.nextCycle_settled w)

end Sys2Proof.Machine
end

/-! ## The configuration write (R44, R48, R51, R52, R96) -/
section

namespace Sys2Proof.Machine

/-- Settles O36: the digit stays one-hot, so it selects a field of the value, which is the word written. -/
theorem writeShowsInTheNextCycle : Obligations.WriteShowsInTheNextCycle := by
  intro s w rest hs hrst hwrEn hone
  have hvalue : (s.nextCycle w).value = w.extractLsb' 0 12 := by
    rw [State.nextCycle_value hrst, if_pos hwrEn, InputWord.wrData]
  have hnext : Digit.oneHot (s.nextCycle w).digit = true := State.nextCycle_oneHot w hone
  obtain ⟨n, hn⟩ := Option.isSome_iff_exists.mp ((select_isSome _ (s.nextCycle w).value).trans hnext)
  have hports := (s.nextCycle_settled w).ports_of_select hn
  exact ⟨_, n, step_eq_nextCycle hs, hvalue, hvalue ▸ hn, congrArg Outputs.segments hports⟩

/-- The edge that samples a word with `rst = 0` and `wr_en = 0` takes the TICK alone (R144). -/
theorem State.afterEdge_tickWord (s : State) (x : Value) : s.afterEdge (inputWord false false x) = s.clockTick := by
  simp [State.afterEdge]

/-- Settles O37: after the TICK the write puts back the value that is held. -/
theorem writeOfTheHeldValueIsATick : Obligations.WriteOfTheHeldValueIsATick := by
  intro s rest x
  rw [step_of_listed_edge rfl, step_of_listed_edge rfl, State.afterEdge_writeWord, State.afterEdge_tickWord]
  rfl

/-- Settles O38: whatever state the earlier writes lead to, the last edge replaces the whole value. -/
theorem lastOfConsecutiveWritesStays : Obligations.LastOfConsecutiveWritesStays := by
  intro s ws w rest hs hwrites
  have hrun := run_edges hs
  rw [List.length_append, List.length_singleton, State.afterEdges_concat] at hrun
  obtain ⟨hrst, hwrEn⟩ := hwrites w (by simp)
  exact ⟨_, hrun, by rw [State.nextCycle_value hrst, if_pos hwrEn]⟩

theorem State.afterEdges_value_of_noWrite (s : State) (ws : List InputWord)
    (h : ∀ w ∈ ws, InputWord.rst w = false ∧ InputWord.wrEn w = false) : (s.afterEdges ws).value = s.value := by
  induction ws generalizing s with
  | nil => rfl
  | cons w ws ih =>
    obtain ⟨⟨hrst, hwrEn⟩, htail⟩ := List.forall_mem_cons.mp h
    rw [State.afterEdges_cons, ih _ htail, State.nextCycle_value hrst, hwrEn]
    rfl

/-- Settles O39, by induction on the edges: one without a write and a reset keeps the value. -/
theorem onlyWritesAndResetChangeTheValue : Obligations.OnlyWritesAndResetChangeTheValue := by
  intro s ws rest hs hwords
  exact ⟨_, run_edges hs, s.afterEdges_value_of_noWrite ws hwords⟩

/-- Two blocks whose timer and scanner stand alike: what the writer cannot tell apart by writing. -/
structure State.SameTiming (s t : State) : Prop where
  refreshCount : s.refreshCount = t.refreshCount
  count : s.count = t.count
  digit : s.digit = t.digit

theorem State.SameTiming.advance {s t : State} (h : s.SameTiming t) : s.advance = t.advance := by
  rw [State.advance, State.advance, h.count, h.refreshCount]

/-- Timer and scanner read themselves alone (R96, R111). -/
theorem State.SameTiming.nextCycle {s t : State} {w x : InputWord} (h : s.SameTiming t)
    (hw : InputWord.rst w = false) (hx : InputWord.rst x = false) : (s.nextCycle w).SameTiming (t.nextCycle x) where
  refreshCount := by rw [State.nextCycle_refreshCount, State.nextCycle_refreshCount, h.refreshCount]
  count := by
    rw [State.nextCycle_count hw, State.nextCycle_count hx, State.countNext, State.countNext, h.advance, h.count]
  digit := by
    rw [State.nextCycle_digit hw, State.nextCycle_digit hx, State.digitNext, State.digitNext, h.advance, h.digit]

theorem State.SameTiming.afterEdges {s t : State} {ws xs : List InputWord} (h : s.SameTiming t)
    (hlen : ws.length = xs.length) (hws : NoReset ws) (hxs : NoReset xs) :
    (s.afterEdges ws).SameTiming (t.afterEdges xs) := by
  induction ws generalizing s t xs with
  | nil =>
    obtain rfl := List.length_eq_zero_iff.mp hlen.symm
    exact h
  | cons w ws ih =>
    obtain ⟨x, xs, rfl⟩ := List.exists_cons_of_length_eq_add_one hlen.symm
    obtain ⟨hw, hws⟩ := List.forall_mem_cons.mp hws
    obtain ⟨hx, hxs⟩ := List.forall_mem_cons.mp hxs
    rw [State.afterEdges_cons, State.afterEdges_cons]
    exact ih (h.nextCycle hw hx) (Nat.succ.inj hlen) hws hxs

/-- Settles O40: edges without a reset keep the timers and the scanners of the two blocks alike. -/
theorem writesDoNotMoveTimerOrScanner : Obligations.WritesDoNotMoveTimerOrScanner := by
  intro s t ws xs rs rt hs ht hlen hws hxs hthreshold hcount hdigit
  have hsame : s.SameTiming t := ⟨hthreshold, hcount, hdigit⟩
  have hend := hsame.afterEdges hlen hws hxs
  exact ⟨_, _, run_edges hs, run_edges ht, hend.count, hend.advance, hend.digit⟩

end Sys2Proof.Machine
end

/-! ## Time without a reset (R93, R94, R110, R112, R114, R148) -/
section

namespace Sys2Proof.Machine

theorem State.countNext_of_not_advance {s : State} (h : s.advance = false) : s.countNext = s.count + 1 := by
  rw [State.countNext_eq, if_neg (s.advance_eq_false_iff.mp h)]

/-- After `n` edges without a reset the count has wrapped `k` times and the digit has rotated at each wrap (R94,
R110). -/
theorem State.afterEdges_wraps {s : State} {ws : List InputWord} (hws : NoReset ws)
    (hcount : s.count ≤ s.refreshCount) :
    ∃ k, (s.afterEdges ws).count + (s.refreshCount + 1) * k = s.count + ws.length ∧
      (s.afterEdges ws).count ≤ s.refreshCount ∧ (s.afterEdges ws).digit = rotate^[k] s.digit := by
  induction ws using List.reverseRecOn with
  | nil => exact ⟨0, rfl, hcount, rfl⟩
  | append_singleton ws w ih =>
    obtain ⟨hws, hw⟩ := List.forall_mem_append.mp hws
    obtain ⟨k, hsum, hle, hdigit⟩ := ih hws
    have hrst : InputWord.rst w = false := hw w (List.mem_singleton_self w)
    have hthreshold := s.afterEdges_refreshCount ws
    rw [State.afterEdges_concat, State.nextCycle_count hrst, State.nextCycle_digit hrst, List.length_append,
      List.length_singleton]
    cases hadvance : (s.afterEdges ws).advance with
    | true =>
      rw [State.countNext_of_advance hadvance, State.digitNext_of_advance hadvance, hdigit]
      have hfull := (State.advance_iff _).mp hadvance
      refine ⟨k + 1, ?_, Nat.zero_le _, (Function.iterate_succ_apply' rotate k s.digit).symm⟩
      rw [Nat.mul_succ]
      omega
    | false =>
      rw [State.countNext_of_not_advance hadvance, State.digitNext_of_not_advance hadvance]
      have hbelow := (State.advance_eq_false_iff _).mp hadvance
      exact ⟨k, by omega, by omega, hdigit⟩

/-- The count is the remainder, and the number of rotations the quotient, of the cycles since the count was 0 by the
period R + 1 (R94, R110). -/
theorem State.afterEdges_count_digit {s : State} {ws : List InputWord} (hws : NoReset ws)
    (hcount : s.count ≤ s.refreshCount) :
    (s.afterEdges ws).count = (s.count + ws.length) % (s.refreshCount + 1) ∧
      (s.afterEdges ws).digit = rotate^[(s.count + ws.length) / (s.refreshCount + 1)] s.digit := by
  obtain ⟨k, hsum, hle, hdigit⟩ := State.afterEdges_wraps hws hcount
  obtain ⟨hdiv, hmod⟩ :=
    (Nat.div_mod_unique (Nat.succ_pos s.refreshCount)).mpr ⟨hsum, Nat.lt_succ_of_le hle⟩
  exact ⟨hmod.symm, hdiv ▸ hdigit⟩

/-- Settles O41: the count is the remainder, and `advance` compares it with the threshold, which stays. -/
theorem countIsModuloThePeriod : Obligations.CountIsModuloThePeriod := by
  intro s ws rest hs hws hcount
  obtain ⟨hmod, -⟩ := State.afterEdges_count_digit hws hcount
  have hadvance := (s.afterEdges ws).advance_iff
  rw [hmod, s.afterEdges_refreshCount] at hadvance
  exact ⟨_, run_edges hs, hmod, hadvance⟩

/-- Settles O42: the number of rotations is the quotient. -/
theorem digitRotatesOncePerPeriod : Obligations.DigitRotatesOncePerPeriod := by
  intro s ws rest hs hws hcount
  exact ⟨_, run_edges hs, (State.afterEdges_count_digit hws hcount).2⟩

/-- Settles O43: up to R - count edges the sum stays below the period; one edge later it is the period. -/
theorem nextRotationArrives : Obligations.NextRotationArrives := by
  intro s ws rest hs hws hcount
  obtain ⟨hmod, hdigit⟩ := State.afterEdges_count_digit hws hcount
  refine ⟨fun hlen => ⟨_, run_edges hs, ?_⟩, fun hlen => ⟨_, run_edges hs, ?_⟩⟩
  · have hbelow : s.count + ws.length < s.refreshCount + 1 := by omega
    rw [Nat.mod_eq_of_lt hbelow] at hmod
    rw [Nat.div_eq_of_lt hbelow] at hdigit
    exact ⟨hdigit, hmod⟩
  · have hperiod : s.count + ws.length = s.refreshCount + 1 := by omega
    rw [hperiod, Nat.mod_self] at hmod
    rw [hperiod, Nat.div_self (Nat.succ_pos _)] at hdigit
    exact ⟨hdigit, hmod⟩

/-- Whole periods bring the count back, each with one rotation (R112). -/
theorem State.afterEdges_of_periods {s : State} {ws : List InputWord} {k : Nat} (hws : NoReset ws)
    (hcount : s.count ≤ s.refreshCount) (hlen : ws.length = k * (s.refreshCount + 1)) :
    (s.afterEdges ws).count = s.count ∧ (s.afterEdges ws).digit = rotate^[k] s.digit := by
  have hlt : s.count < s.refreshCount + 1 := Nat.lt_succ_of_le hcount
  obtain ⟨hmod, hdigit⟩ := State.afterEdges_count_digit hws hcount
  rw [hlen, Nat.add_mul_mod_self_right, Nat.mod_eq_of_lt hlt] at hmod
  rw [hlen, Nat.add_mul_div_right _ _ (Nat.succ_pos _), Nat.div_eq_of_lt hlt, Nat.zero_add] at hdigit
  exact ⟨hmod, hdigit⟩

theorem rotate_ne_of_oneHot : ∀ d : Digit, Digit.oneHot d = true → rotate d ≠ d ∧ rotate (rotate d) ≠ d := by
  decide

/-- Settles O44: a rotation has order 3, and moves a one-hot digit. -/
theorem frameHasThreePeriods : Obligations.FrameHasThreePeriods := by
  intro s ws rest hs hws hcount
  refine ⟨fun hthree => ?frame, fun hone hlen => ?shorter⟩
  case frame =>
    obtain ⟨hcountBack, hdigit⟩ := State.afterEdges_of_periods hws hcount hthree
    exact ⟨_, run_edges hs, hcountBack, hdigit.trans (rotate_three_times s.digit)⟩
  case shorter =>
    obtain ⟨hrotated, hrotatedTwice⟩ := rotate_ne_of_oneHot s.digit hone
    obtain hlen | hlen := hlen
    · rw [← Nat.one_mul (s.refreshCount + 1)] at hlen
      obtain ⟨hcountBack, hdigit⟩ := State.afterEdges_of_periods hws hcount hlen
      exact ⟨_, run_edges hs, hcountBack, hdigit ▸ hrotated⟩
    · obtain ⟨hcountBack, hdigit⟩ := State.afterEdges_of_periods hws hcount hlen
      exact ⟨_, run_edges hs, hcountBack, hdigit ▸ hrotatedTwice⟩

/-- Only the number of rotations modulo 3 matters (R112). -/
theorem rotate_iterate_mod_three (k : Nat) (d : Digit) : rotate^[k % 3] d = rotate^[k] d :=
  have hperiodic : Function.IsPeriodicPt rotate 3 d := rotate_three_times d
  hperiodic.iterate_mod_apply k

/-- From a count of 0 the digit depends on the number of whole periods modulo 3 (R112). -/
theorem State.afterEdges_digit_of_count_eq_zero {s : State} {ws : List InputWord} {k : Nat} (hws : NoReset ws)
    (hzero : s.count = 0) (hk : ws.length / (s.refreshCount + 1) % 3 = k) :
    (s.afterEdges ws).digit = rotate^[k] s.digit := by
  obtain ⟨-, hdigit⟩ := State.afterEdges_count_digit hws (hzero.le.trans (Nat.zero_le s.refreshCount))
  rw [hdigit, hzero, Nat.zero_add, ← rotate_iterate_mod_three, hk]

/-- After `k` rotations modulo 3 from a settled cycle with count 0 the outputs show the field that the rotated digit
selects. -/
theorem State.afterEdges_shows {s : State} {ws : List InputWord} {k : Nat} {d : Digit} {n : Nibble} (hws : NoReset ws)
    (hsettled : s.Settled) (hzero : s.count = 0) (hk : ws.length / (s.refreshCount + 1) % 3 = k)
    (hd : rotate^[k] s.digit = d) (hn : select d (s.afterEdges ws).value = some n) :
    (s.afterEdges ws).ports = ⟨d, segmentPattern n⟩ := by
  rw [← State.afterEdges_digit_of_count_eq_zero hws hzero hk] at hd
  subst hd
  exact (State.afterEdges_settled ws hsettled).ports_of_select hn

/-- Settles O45: the digit is that of the number of rotations modulo 3, and the outputs, settled in every cycle, show
the field that it selects. -/
theorem displayOrderFromReset : Obligations.DisplayOrderFromReset := by
  intro R ws hws
  have hstart : State.Settled { State.resetWith R with stimulus := edges ws } := State.resetWith_settled R
  have rotated : rotate^[1] 0b001#3 = 0b100#3 := by decide
  have rotatedTwice : rotate^[2] 0b001#3 = 0b010#3 := by decide
  refine ⟨_, run_edges (List.append_nil _).symm, fun hk => ?first, fun hk => ?second, fun hk => ?third⟩
  case first => exact State.afterEdges_shows hws hstart rfl hk rfl (select_001 _)
  case second => exact State.afterEdges_shows hws hstart rfl hk rotated (select_100 _)
  case third => exact State.afterEdges_shows hws hstart rfl hk rotatedTwice (select_010 _)

end Sys2Proof.Machine
end
